-- ==== Sys2Proof/Word.lean ====
section
/-! DEFINITION. The word types of the core (spec/00_scope.md R8, R9): a byte is a u8, a register is a u32.
`BitVec` addition, subtraction, multiplication and shifts are the modulo-2^32 operators of R9. -/

namespace Sys2Proof

/-- A u8 of R8: an unsigned 8-bit value. -/
abbrev Byte := BitVec 8

/-- A u32 of R8: an unsigned 32-bit value, the width of every register (R7). -/
abbrev Word := BitVec 32

/-- The number of byte addresses of system memory: `ADDR_WIDTH` is 32 (R7, 10_state.md R37). -/
abbrev addressSpace : Nat := 4294967296

end Sys2Proof
end

