-- ==== Sys2Proof/Machine/Bits.lean ====
section
/-! DEFINITION. The primitives of spec/00_scope.md section 5: widening, rotation, little-endian assembly, loops; and the
bit fields of a CTRL value. -/

namespace Sys2Proof.Machine

/-- `zext32(b)` of R9. -/
def zext32 (b : Byte) : Word := b.setWidth 32

/-- `rotl32(x, k)` of R9, for 0 < k < 32. -/
def rotl32 (x : Word) (k : Nat) : Word := (x <<< k) ||| (x >>> (32 - k))

/-- `le16` of R10. -/
def le16 (b0 b1 : Byte) : Word := zext32 b0 ||| (zext32 b1 <<< 8)

/-- `le32` of R10. -/
def le32 (b0 b1 b2 b3 : Byte) : Word :=
  zext32 b0 ||| (zext32 b1 <<< 8) ||| (zext32 b2 <<< 16) ||| (zext32 b3 <<< 24)

/-- Byte `k` of a word, byte 0 least significant. -/
def byteOf (v : Word) (k : Nat) : Byte := v.extractLsb' (8 * k) 8

/-- The four bytes of a word, least significant first. -/
def leBytes (v : Word) : List Byte := [byteOf v 0, byteOf v 1, byteOf v 2, byteOf v 3]

/-- `for j in a .. b-1` of R14: runs `a, a+1, ..., b-1` in order and nothing when `b ≤ a`. -/
def forRange {σ : Type} (a b : Nat) (init : σ) (body : σ → Nat → σ) : σ :=
  (List.range' a (b - a)).foldl body init

/-- Bit 0 of a CTRL value: START (10_state.md R22, 30_encoding.md R70). -/
def ctrlStart (v : Word) : Bool := v.getLsbD 0

/-- Bit 1 of a CTRL value: IE (R22). -/
def ctrlIe (v : Word) : Bool := v.getLsbD 1

/-- Bits 7:4 of a CTRL value: OP (R22). -/
def ctrlOp (v : Word) : BitVec 4 := v.extractLsb' 4 4

/-- A command word with its reserved bits written as 0 (30_encoding.md R70, R76). -/
def commandWord (op : BitVec 4) (ie : Bool) : Word :=
  (op.setWidth 32 <<< 4) ||| ((BitVec.ofBool ie).setWidth 32 <<< 1) ||| 1#32

end Sys2Proof.Machine
end

