-- ==== Sys2Proof/Syntax.lean ====
section
/-! DEFINITION. The slots of the register block (spec/10_state.md R21) and the instructions: one constructor per row of
spec/opcode_table.json, in the table's order (spec/30_encoding.md R70 to R76, spec/40_register_access.md R91 to R111). -/

namespace Sys2Proof

/-- The sixteen 32-bit slots of the register block, in offset order (R21). -/
inductive Slot where
  | ctrl | status | src | len | seed | tbl | errAddr | res1C
  | result0 | result1 | result2 | result3 | res30 | res34 | res38 | res3C
deriving DecidableEq, Repr

/-- One row of the opcode table. A command carries CTRL.IE, its only field (R70): the other bits of the word are
fixed or ignored. A write carries its data `v`. -/
inductive Instr where
  /-- OP 0x1 (R120). -/
  | pearson (ie : Bool)
  /-- OP 0x2 (R132). -/
  | crc32t (ie : Bool)
  /-- OP 0x3 (R133). -/
  | crc32b (ie : Bool)
  /-- OP 0x4 (R145). -/
  | sdbm (ie : Bool)
  /-- OP 0x5 (R146). -/
  | fnv1a (ie : Bool)
  /-- OP 0x6 (R147). -/
  | oat (ie : Bool)
  /-- OP 0x7 (R165). -/
  | lookup3 (ie : Bool)
  /-- OP 0x8 (R198). -/
  | md5 (ie : Bool)
  /-- Reserved OP values (R75, R224). -/
  | reservedOp0 (ie : Bool)
  | reservedOp9 (ie : Bool)
  | reservedOpA (ie : Bool)
  | reservedOpB (ie : Bool)
  | reservedOpC (ie : Bool)
  | reservedOpD (ie : Bool)
  | reservedOpE (ie : Bool)
  | reservedOpF (ie : Bool)
  /-- Write CTRL with bit 0 = 0 (R91). -/
  | wrCtrl (v : Word)
  /-- Write CTRL with bit 0 = 1 while BUSY = 0 (R92). -/
  | startAccept (v : Word)
  /-- Write CTRL with bit 0 = 1 while BUSY = 1 (R93). -/
  | startDrop (v : Word)
  /-- R94. -/
  | rdCtrl
  /-- R95. -/
  | wrStatus (v : Word)
  /-- R96. -/
  | rdStatus
  /-- R97 to R100. -/
  | wrSrc (v : Word)
  | wrLen (v : Word)
  | wrSeed (v : Word)
  | wrTbl (v : Word)
  /-- R101 to R104. -/
  | rdSrc
  | rdLen
  | rdSeed
  | rdTbl
  /-- R105. -/
  | rdErrAddr
  /-- R106 to R109. -/
  | rdResult0
  | rdResult1
  | rdResult2
  | rdResult3
  /-- Writes to read-only registers (R110). -/
  | wrRoErrAddr (v : Word)
  | wrRoResult0 (v : Word)
  | wrRoResult1 (v : Word)
  | wrRoResult2 (v : Word)
  | wrRoResult3 (v : Word)
  /-- Reads and writes of reserved slots (R111). -/
  | rdRes1C
  | wrRes1C (v : Word)
  | rdRes30
  | wrRes30 (v : Word)
  | rdRes34
  | wrRes34 (v : Word)
  | rdRes38
  | wrRes38 (v : Word)
  | rdRes3C
  | wrRes3C (v : Word)
deriving DecidableEq, Repr

end Sys2Proof
end

