-- ==== Sys2Proof/WellFormed.lean ====
section
/-! DEFINITION. Which terms of `Instr` are transactions: the three writes of CTRL are told apart by bit 0 of their data
(spec/30_encoding.md R74), and START.ACCEPT from START.DROP by STATUS.BUSY (spec/40_register_access.md R92, R93). -/

namespace Sys2Proof

/-- Why a term is not well formed. -/
inductive FormError where
  /-- A WR.CTRL whose data has START = 1 (R91 requires `v[0] = 0`). -/
  | startSetInWrCtrl
  /-- A START.ACCEPT or START.DROP whose data has START = 0 (R92, R93 require format CMD). -/
  | startClearInStart
deriving DecidableEq, Repr

/-- The check of one term, with the reason when it fails. -/
def checkForm : Instr → Option FormError
  | .wrCtrl v => if v.getLsbD 0 then some .startSetInWrCtrl else none
  | .startAccept v => if v.getLsbD 0 then none else some .startClearInStart
  | .startDrop v => if v.getLsbD 0 then none else some .startClearInStart
  | .pearson _ | .crc32t _ | .crc32b _ | .sdbm _ | .fnv1a _ | .oat _ | .lookup3 _ | .md5 _ | .reservedOp0 _
  | .reservedOp9 _ | .reservedOpA _ | .reservedOpB _ | .reservedOpC _ | .reservedOpD _ | .reservedOpE _
  | .reservedOpF _ | .rdCtrl | .wrStatus _ | .rdStatus | .wrSrc _ | .wrLen _ | .wrSeed _ | .wrTbl _ | .rdSrc
  | .rdLen | .rdSeed | .rdTbl | .rdErrAddr | .rdResult0 | .rdResult1 | .rdResult2 | .rdResult3
  | .wrRoErrAddr _ | .wrRoResult0 _ | .wrRoResult1 _ | .wrRoResult2 _ | .wrRoResult3 _ | .rdRes1C
  | .wrRes1C _ | .rdRes30 | .wrRes30 _ | .rdRes34 | .wrRes34 _ | .rdRes38 | .wrRes38 _ | .rdRes3C
  | .wrRes3C _ => none

/-- The term is a transaction of spec/40_register_access.md. -/
def wellFormed (i : Instr) : Bool := (checkForm i).isNone

/-- The term can occur while STATUS.BUSY is `busy`: an accepted START only while idle (R92), a dropped one only while
an operation is in flight (R93), every other transaction at any time. -/
def occursWhen (busy : Bool) : Instr → Bool
  | .startAccept _ => !busy
  | .startDrop _ => busy
  | .pearson _ | .crc32t _ | .crc32b _ | .sdbm _ | .fnv1a _ | .oat _ | .lookup3 _ | .md5 _ | .reservedOp0 _
  | .reservedOp9 _ | .reservedOpA _ | .reservedOpB _ | .reservedOpC _ | .reservedOpD _ | .reservedOpE _
  | .reservedOpF _ | .rdCtrl | .wrStatus _ | .rdStatus | .wrSrc _ | .wrLen _ | .wrSeed _ | .wrTbl _ | .rdSrc
  | .rdLen | .rdSeed | .rdTbl | .rdErrAddr | .rdResult0 | .rdResult1 | .rdResult2 | .rdResult3
  | .wrRoErrAddr _ | .wrRoResult0 _ | .wrRoResult1 _ | .wrRoResult2 _ | .wrRoResult3 _ | .rdRes1C
  | .wrRes1C _ | .rdRes30 | .wrRes30 _ | .rdRes34 | .wrRes34 _ | .rdRes38 | .wrRes38 _ | .rdRes3C
  | .wrRes3C _ | .wrCtrl _ => true

end Sys2Proof
end

