-- ==== Sys2Proof/Decode.lean ====
section
/-! DEFINITION. Decoding of host transactions (spec/30_encoding.md R70, R71, R74, R75; spec/10_state.md R21) and, after it,
the encoder written row by row from spec/opcode_table.json.

A transaction reaches the decoder as a packet of bytes (log 4):
* one byte: a BUS read, bits 6:0 the descriptor of R71;
* five bytes: a BUS write, the descriptor and then the data, least significant byte first;
* four bytes: a command word of format CMD, the value a host writes to CTRL, least significant byte first. -/

namespace Sys2Proof

open Sys2Proof.Machine

/-- Why a packet is no transaction. -/
inductive DecodeError where
  /-- off[1:0] is not 0: not a BUS transaction (R71), the BUS_ACCESS of 40_register_access.md R90. -/
  | notAligned
  /-- Bit 7 of the descriptor byte is set: a descriptor has seven bits (R71). -/
  | badDescriptor
  /-- No format has this many bytes, or the direction and the length disagree. -/
  | badLength
deriving DecidableEq, Repr

/-- The slot at word index `n` of the block, offset `4 * n` (R21). -/
def slotAt (n : BitVec 4) : Slot :=
  match n.toNat with
  | 0 => .ctrl | 1 => .status | 2 => .src | 3 => .len
  | 4 => .seed | 5 => .tbl | 6 => .errAddr | 7 => .res1C
  | 8 => .result0 | 9 => .result1 | 10 => .result2 | 11 => .result3
  | 12 => .res30 | 13 => .res34 | 14 => .res38 | _ => .res3C

/-- The transaction a read of a slot is (R94, R96, R101 to R109, R111). -/
def decodeRead : Slot → Instr
  | .ctrl => .rdCtrl
  | .status => .rdStatus
  | .src => .rdSrc
  | .len => .rdLen
  | .seed => .rdSeed
  | .tbl => .rdTbl
  | .errAddr => .rdErrAddr
  | .res1C => .rdRes1C
  | .result0 => .rdResult0
  | .result1 => .rdResult1
  | .result2 => .rdResult2
  | .result3 => .rdResult3
  | .res30 => .rdRes30
  | .res34 => .rdRes34
  | .res38 => .rdRes38
  | .res3C => .rdRes3C

/-- A write of CTRL at the BUS level: WR.CTRL when bit 0 is 0 (R91), else START.ACCEPT or START.DROP by STATUS.BUSY
(R92, R93; log 3). -/
def decodeCtrlWrite (busy : Bool) (v : Word) : Instr :=
  if ctrlStart v then (if busy then .startDrop v else .startAccept v) else .wrCtrl v

/-- The transaction a write of `v` to a slot is (R91 to R93, R95, R97 to R100, R110, R111). -/
def decodeWrite (busy : Bool) (v : Word) : Slot → Instr
  | .ctrl => decodeCtrlWrite busy v
  | .status => .wrStatus v
  | .src => .wrSrc v
  | .len => .wrLen v
  | .seed => .wrSeed v
  | .tbl => .wrTbl v
  | .errAddr => .wrRoErrAddr v
  | .res1C => .wrRes1C v
  | .result0 => .wrRoResult0 v
  | .result1 => .wrRoResult1 v
  | .result2 => .wrRoResult2 v
  | .result3 => .wrRoResult3 v
  | .res30 => .wrRes30 v
  | .res34 => .wrRes34 v
  | .res38 => .wrRes38 v
  | .res3C => .wrRes3C v

/-- The command of an OP value (R72, R75). -/
def commandOf (op : BitVec 4) (ie : Bool) : Instr :=
  match op.toNat with
  | 0 => .reservedOp0 ie
  | 1 => .pearson ie
  | 2 => .crc32t ie
  | 3 => .crc32b ie
  | 4 => .sdbm ie
  | 5 => .fnv1a ie
  | 6 => .oat ie
  | 7 => .lookup3 ie
  | 8 => .md5 ie
  | 9 => .reservedOp9 ie
  | 10 => .reservedOpA ie
  | 11 => .reservedOpB ie
  | 12 => .reservedOpC ie
  | 13 => .reservedOpD ie
  | 14 => .reservedOpE ie
  | _ => .reservedOpF ie

/-- Decoding of a value written to CTRL (R74): total, START first, then OP and IE; bits 3:2 and 31:8 are ignored. -/
def decodeCommand (v : Word) : Instr :=
  if ctrlStart v then commandOf (ctrlOp v) (ctrlIe v) else .wrCtrl v

/-- The descriptor of R71: whether it is a write, and the slot it names. -/
def decodeDescriptor (d : Byte) : Except DecodeError (Bool × Slot) :=
  if d.getLsbD 7 then .error .badDescriptor
  else if d.getLsbD 1 || d.getLsbD 0 then .error .notAligned
  else .ok (d.getLsbD 6, slotAt (d.extractLsb' 2 4))

/-- The decoder, total on any bytes. `busy` is STATUS.BUSY, which tells START.ACCEPT from START.DROP. -/
def decode (busy : Bool) : List Byte → Except DecodeError Instr
  | [d] =>
    match decodeDescriptor d with
    | .error e => .error e
    | .ok (true, _) => .error .badLength
    | .ok (false, slot) => .ok (decodeRead slot)
  | [b0, b1, b2, b3] => .ok (decodeCommand (le32 b0 b1 b2 b3))
  | [d, b0, b1, b2, b3] =>
    match decodeDescriptor d with
    | .error e => .error e
    | .ok (false, _) => .error .badLength
    | .ok (true, slot) => .ok (decodeWrite busy (le32 b0 b1 b2 b3) slot)
  | _ => .error .badLength

/-- The packet of an instruction: the words of spec/opcode_table.json, its ignored bits written as 0 (R76). -/
def encode : Instr → List Byte
  | .pearson ie => leBytes (commandWord 0x1 ie)
  | .crc32t ie => leBytes (commandWord 0x2 ie)
  | .crc32b ie => leBytes (commandWord 0x3 ie)
  | .sdbm ie => leBytes (commandWord 0x4 ie)
  | .fnv1a ie => leBytes (commandWord 0x5 ie)
  | .oat ie => leBytes (commandWord 0x6 ie)
  | .lookup3 ie => leBytes (commandWord 0x7 ie)
  | .md5 ie => leBytes (commandWord 0x8 ie)
  | .reservedOp0 ie => leBytes (commandWord 0x0 ie)
  | .reservedOp9 ie => leBytes (commandWord 0x9 ie)
  | .reservedOpA ie => leBytes (commandWord 0xA ie)
  | .reservedOpB ie => leBytes (commandWord 0xB ie)
  | .reservedOpC ie => leBytes (commandWord 0xC ie)
  | .reservedOpD ie => leBytes (commandWord 0xD ie)
  | .reservedOpE ie => leBytes (commandWord 0xE ie)
  | .reservedOpF ie => leBytes (commandWord 0xF ie)
  | .wrCtrl v => 0x40 :: leBytes v
  | .startAccept v => 0x40 :: leBytes v
  | .startDrop v => 0x40 :: leBytes v
  | .rdCtrl => [0x00]
  | .wrStatus v => 0x44 :: leBytes v
  | .rdStatus => [0x04]
  | .wrSrc v => 0x48 :: leBytes v
  | .wrLen v => 0x4C :: leBytes v
  | .wrSeed v => 0x50 :: leBytes v
  | .wrTbl v => 0x54 :: leBytes v
  | .rdSrc => [0x08]
  | .rdLen => [0x0C]
  | .rdSeed => [0x10]
  | .rdTbl => [0x14]
  | .rdErrAddr => [0x18]
  | .rdResult0 => [0x20]
  | .rdResult1 => [0x24]
  | .rdResult2 => [0x28]
  | .rdResult3 => [0x2C]
  | .wrRoErrAddr v => 0x58 :: leBytes v
  | .wrRoResult0 v => 0x60 :: leBytes v
  | .wrRoResult1 v => 0x64 :: leBytes v
  | .wrRoResult2 v => 0x68 :: leBytes v
  | .wrRoResult3 v => 0x6C :: leBytes v
  | .rdRes1C => [0x1C]
  | .wrRes1C v => 0x5C :: leBytes v
  | .rdRes30 => [0x30]
  | .wrRes30 v => 0x70 :: leBytes v
  | .rdRes34 => [0x34]
  | .wrRes34 v => 0x74 :: leBytes v
  | .rdRes38 => [0x38]
  | .wrRes38 v => 0x78 :: leBytes v
  | .rdRes3C => [0x3C]
  | .wrRes3C v => 0x7C :: leBytes v

/-- The packet of a row of the opcode table whose `nbits` bits are `w`, every bit above them 0 (log 4). Bit 0 of a command is 1
(R70) and bits 1:0 of a BUS descriptor are 0 (R71), so the first byte tells the formats apart: a command is the four bytes of
its word, a write its descriptor and four data bytes, a read its descriptor and no data. -/
def tablePacket (nbits w : Nat) : List Byte :=
  let byte := fun k => BitVec.ofNat 8 ((w % 2 ^ nbits) >>> (8 * k))
  if (byte 0).getLsbD 0 then [byte 0, byte 1, byte 2, byte 3]
  else if (byte 0).getLsbD 6 then [byte 0, byte 1, byte 2, byte 3, byte 4]
  else [byte 0]

/-- What the decoder reads from a row of the opcode table while the core is idle, as it is after reset. -/
def decodeTableWord (nbits w : Nat) : Option Instr :=
  match decode false (tablePacket nbits w) with
  | .ok i => some i
  | .error _ => none

end Sys2Proof
end

