-- ==== Sys2Proof/Config.lean ====
section
/-! DEFINITION. What an implementation fixes (spec/00_scope.md R7) and the free values of the model.
An `opaque` constant below has no body: nothing can be proved of its value, so a claim holds for every value of it. -/

namespace Sys2Proof

/-- A run of byte addresses `base .. base + size - 1`. -/
structure Region where
  base : Nat
  size : Nat
deriving DecidableEq, Repr

/-- The parameters of 00_scope.md R7, held in the state as plain data that no step changes (log 10).
`MEM_READABLE` is a finite list of regions and `MD5_PAD_CAPACITY` a number of 64-byte blocks (log 11). -/
structure Params where
  /-- `HC_BASE`: host-bus address of the 64-byte register block. -/
  hcBase : Nat
  /-- `MEM_READABLE`: the addresses the read port may read (20_memory.md R51). -/
  readable : List Region
  /-- Regions whose reads have side effects, which the platform must keep out of `readable` (20_memory.md R52). -/
  sideEffect : List Region
  /-- Regions whose value changes without a host store, which it must keep out of `readable` too (20_memory.md R52). -/
  volatile : List Region
  /-- `MD5_PAD_CAPACITY`: `some n` is 64 * (n + 1) bytes, `none` is unbounded (45_md5.md R191). -/
  md5PadBlocks : Option Nat
  /-- `PEARSON_J_START`, 0 or 1 (41_pearson.md R122). -/
  pearsonJStart : Fin 2
deriving DecidableEq, Repr

/-- OPEN parameter `HC_BASE` of the machine that `State.reset` describes (R7; log 10). -/
opaque Config.hcBase : Nat

/-- OPEN parameter `MEM_READABLE` of that machine (R7; log 10, 11). -/
opaque Config.readable : List Region

/-- The side-effecting regions of that machine's platform (20_memory.md R52; log 10, 12). -/
opaque Config.sideEffect : List Region

/-- That platform's regions whose value changes without a host store (20_memory.md R52; log 10, 12). -/
opaque Config.volatile : List Region

/-- OPEN parameter `MD5_PAD_CAPACITY` of that machine (R7; log 10, 11). -/
opaque Config.md5PadBlocks : Option Nat

/-- The parameters `State.reset` starts with. `PEARSON_J_START` has the spec's default 0 (R7, 41_pearson.md R122; log 11). -/
def Config.params : Params where
  hcBase := Config.hcBase
  readable := Config.readable
  sideEffect := Config.sideEffect
  volatile := Config.volatile
  md5PadBlocks := Config.md5PadBlocks
  pearsonJStart := 0

/-- Free 32-bit values: the `i`-th word of the `n`-th draw (log 13). -/
opaque Config.freeWord : Nat → Nat → Word

/-- Free 8-bit values (log 13). -/
opaque Config.freeByte : Nat → Byte

/-- Free 4-bit values (log 13). -/
opaque Config.freeOp : Nat → BitVec 4

/-- Free contents of the MD5 padding buffer (log 13). -/
opaque Config.freePad : Nat → List Byte

end Sys2Proof
end

