-- ==== Sys2Proof/Machine/State.lean ====
section
/-! DEFINITION. The state of the machine as plain data (spec/10_state.md), the reasons it stops, and the machine right after
reset (spec/70_reset_and_hazards.md R250, R252). -/

namespace Sys2Proof.Machine

/-- CTRL (R22). START is a command bit that reads 0 and the other bits are reserved, so two fields hold all of it. -/
structure Ctrl where
  ie : Bool
  op : BitVec 4
deriving DecidableEq, Repr

/-- STATUS (R23). `busy` is also the engine state, BUSY or IDLE (R35). -/
structure Status where
  busy : Bool
  done : Bool
  err : Bool
  busyErr : Bool
  errCode : BitVec 4
  l3path : BitVec 2
deriving DecidableEq, Repr

/-- The register block (R21). The reserved slots hold nothing (R30). -/
structure RegBlock where
  ctrl : Ctrl
  status : Status
  src : Word
  len : Word
  seed : Word
  tbl : Word
  errAddr : Word
  result0 : Word
  result1 : Word
  result2 : Word
  result3 : Word
deriving DecidableEq, Repr

/-- The operands latched at an accepted START: `lop`, `lsrc`, `llen`, `lseed`, `ltbl` (R36). -/
structure Latched where
  op : BitVec 4
  src : Word
  len : Word
  seed : Word
  tbl : Word
deriving DecidableEq, Repr

/-- Working registers of the Pearson unit: `w.res`, `w.h` (R34). -/
structure PearsonWork where
  res : Word
  h : Byte
deriving DecidableEq, Repr

/-- Working register of a CRC unit: `w.r` (R34). -/
structure CrcWork where
  r : Word
deriving DecidableEq, Repr

/-- Working register of a single-accumulator unit: `w.h` (R34). -/
structure AccWork where
  h : Word
deriving DecidableEq, Repr

/-- Working registers of the lookup3 unit: `w.a`, `w.b`, `w.c` (R34). -/
structure Lookup3Work where
  a : Word
  b : Word
  c : Word
deriving DecidableEq, Repr

/-- Working registers of the MD5 units: `w.H[0..3]`, `w.A`, `w.B`, `w.C`, `w.D`, `w.F`, `w.pad` (R34, 45_md5.md R192). -/
structure Md5Work where
  h0 : Word
  h1 : Word
  h2 : Word
  h3 : Word
  a : Word
  b : Word
  c : Word
  d : Word
  f : Word
  pad : List Byte
deriving DecidableEq, Repr

/-- The internal working registers, one set per unit (R34). -/
structure Work where
  pearson : PearsonWork
  crc32t : CrcWork
  crc32b : CrcWork
  sdbm : AccWork
  fnv1a : AccWork
  oat : AccWork
  lookup3 : Lookup3Work
  md5 : Md5Work
deriving DecidableEq, Repr

/-- The model faults of 70_reset_and_hazards.md R255: facts about a run, never cleared, not visible to the host. -/
structure ModelFaults where
  busAccess : Bool
  footprintRace : Bool
deriving DecidableEq, Repr

/-- System memory as address and byte pairs in canonical form (see `Memory.wf` in Machine/Ops.lean). -/
abbrev Memory := List Host.Cell

/-- The byte an unlisted address of system memory reads as. DESIGN CHOICE, unsafe: the spec gives none (log 7). -/
abbrev unlistedByte : Byte := 0

/-- What can happen next (log 1). The host and the engine interleave in any order (60_exceptions.md R232), and the list of
coming events is that order. -/
inductive Event where
  /-- A host transaction on the register block, as the packet the decoder reads. -/
  | txn (packet : List Byte)
  /-- A host-bus access of `width` bits at the absolute address `addr`, as yet not admitted (40_register_access.md R90). -/
  | access (write : Bool) (addr width : Nat) (data : Word)
  /-- A host store of one byte to system memory (`MW` of 30_encoding.md R77). -/
  | store (addr : Nat) (b : Byte)
  /-- The engine's turn (60_exceptions.md R220). -/
  | engine
  /-- The reset input is asserted (70_reset_and_hazards.md R250). -/
  | reset
deriving DecidableEq, Repr

/-- The machine. The register block, latches, working registers, recorded model faults and system memory are the spec's;
`raced`, `readData`, `inbox` and `freeCount` are the model's own; `params` are the named arguments of 00_scope.md R7. -/
structure State where
  regs : RegBlock
  latched : Latched
  work : Work
  faults : ModelFaults
  mem : Memory
  params : Params
  /-- The operation in flight has been raced: a host store hit its footprint (20_memory.md R61; log 14). -/
  raced : Bool
  /-- The value the last host read returned: `result` of 40_register_access.md (log 6). -/
  readData : Word
  /-- The events still to come (log 1). -/
  inbox : List Event
  /-- How many free values have been drawn (log 13). -/
  freeCount : Nat
deriving DecidableEq, Repr

/-- Why the machine stops with a fault. -/
inductive Fault where
  /-- Raised by a host store to an address of 2^32 or more, which 10_state.md R37 says does not exist. Safe: the run stops. -/
  | noSuchAddress
deriving DecidableEq, Repr

/-- Why a step has no meaning. -/
inductive Refusal where
  /-- Raised by an arm of `exec` that has no meaning yet; no arm does. Safe. -/
  | notModelled (mnemonic : String)
  /-- Raised by a packet that is no encoding at all (log 18). Safe: the run stops. -/
  | malformedPacket
  /-- Raised by a completion whose footprint touches a readable region whose reads have side effects: 20_memory.md R52
  says a model must refuse it (log 12). Safe: the run stops. -/
  | sideEffectRegion
  /-- Raised by a completion whose footprint touches a readable region whose value changes without a host store, which the
  same rule says a model must refuse (log 12). Safe: the run stops. -/
  | volatileRegion
deriving DecidableEq, Repr

/-- Every register of the block at 0x00000000 (R250; R21 to R30). -/
def RegBlock.reset : RegBlock where
  ctrl := ⟨false, 0⟩
  status := ⟨false, false, false, false, 0, 0⟩
  src := 0
  len := 0
  seed := 0
  tbl := 0
  errAddr := 0
  result0 := 0
  result1 := 0
  result2 := 0
  result3 := 0

/-- The latched operands at `State.reset`. DESIGN CHOICE, unsafe: R250 says unspecified (log 8). -/
def Latched.zero : Latched := ⟨0, 0, 0, 0, 0⟩

/-- The working registers at `State.reset`. DESIGN CHOICE, unsafe: R250 says unspecified (log 9). -/
def Work.zero : Work :=
  ⟨⟨0, 0⟩, ⟨0⟩, ⟨0⟩, ⟨0⟩, ⟨0⟩, ⟨0⟩, ⟨0, 0, 0⟩, ⟨0, 0, 0, 0, 0, 0, 0, 0, 0, []⟩⟩

/-- The machine right after reset with parameters `p`: the block is zero and the engine IDLE (R250, R252), no model fault is
recorded (R255), memory lists nothing (log 7), and no event is pending (log 1). -/
def State.resetWith (p : Params) : State where
  regs := RegBlock.reset
  latched := Latched.zero
  work := Work.zero
  faults := ⟨false, false⟩
  mem := []
  params := p
  raced := false
  readData := 0
  inbox := []
  freeCount := 0

/-- The machine right after reset, its OPEN parameters uninterpreted (log 10). -/
def State.reset : State := State.resetWith Config.params

end Sys2Proof.Machine
end

