-- ==== Sys2Proof/Machine/Accumulators.lean ====
section
/-! DEFINITION. The units `sdbm_hash`, `fnv1a_hash` and `jenkins_oat_hash` (spec/43_accumulators.md R145 to R147). `msg j` is
`Msg[j]`; every operator is modulo 2^32 (R9). -/

namespace Sys2Proof.Machine

/-- One byte of SDBM (R145): the second shift is a right shift by 16, as the spec writes it. -/
def sdbmByte (h : Word) (b : Byte) : Word := zext32 b + (h <<< 6) + (h >>> 16) - h

/-- SDBM (R145). -/
def sdbmRun (msg : Nat → Byte) (len : Nat) (w : AccWork) : AccWork :=
  forRange 0 len { w with h := 0 } fun w j => { w with h := sdbmByte w.h (msg j) }

/-- One byte of FNV1A (R146). -/
def fnv1aByte (h : Word) (b : Byte) : Word := (h ^^^ zext32 b) * 0x01000193#32

/-- FNV1A (R146). -/
def fnv1aRun (msg : Nat → Byte) (len : Nat) (w : AccWork) : AccWork :=
  forRange 0 len { w with h := 0x811C9DC5#32 } fun w j => { w with h := fnv1aByte w.h (msg j) }

/-- One byte of OAT (R147). -/
def oatByte (h : Word) (b : Byte) : Word :=
  let h := h + zext32 b
  let h := h + (h <<< 10)
  h ^^^ (h >>> 6)

/-- The finalization of OAT (R147), run also for the empty message. -/
def oatFinal (h : Word) : Word :=
  let h := h + (h <<< 3)
  let h := h ^^^ (h >>> 11)
  h + (h <<< 15)

/-- OAT (R147). -/
def oatRun (msg : Nat → Byte) (len : Nat) (w : AccWork) : AccWork :=
  let w := forRange 0 len { w with h := 0 } fun w j => { w with h := oatByte w.h (msg j) }
  { w with h := oatFinal w.h }

end Sys2Proof.Machine
end

