-- ==== Sys2Proof/Machine/Crc32.lean ====
section
/-! DEFINITION. The units `crc32_table_engine` and `crc32_bitwise_core` (spec/42_crc32.md R130 to R135). `msg j` is `Msg[j]`. -/

namespace Sys2Proof.Machine

/-- One of the eight steps of `computeCRC` (R130): the low bit is tested before the shift of the same step. -/
def crcBitStep (c : Word) : Word := if c.getLsbD 0 then (c >>> 1) ^^^ 0xEDB88320#32 else c >>> 1

/-- `computeCRC(n)` (R130). -/
def computeCRC (n : Byte) : Word := forRange 0 8 (zext32 n) fun c _ => crcBitStep c

/-- The initial remainder of both units, 24 one bits (R135). -/
def crcInit : Word := 0x00FFFFFF#32

/-- One byte of R132 and R133; `entry` is the table entry function. -/
def crcByte (entry : Byte → Word) (r : Word) (b : Byte) : Word :=
  (r >>> 8) ^^^ entry ((r &&& 0xFF#32).setWidth 8 ^^^ b)

/-- CRC32T with the caller's table `tab` (R132) and CRC32B with `computeCRC` (R133); no final complement. -/
def crcRun (msg : Nat → Byte) (entry : Byte → Word) (len : Nat) (w : CrcWork) : CrcWork :=
  forRange 0 len { w with r := crcInit } fun w j => { w with r := crcByte entry w.r (msg j) }

end Sys2Proof.Machine
end

