-- ==== Sys2Proof/Machine/Lookup3.lean ====
section
/-! DEFINITION. The unit `lookup3_mixer` (spec/44_lookup3.md R160 to R168). `msg j` is `Msg[j]`. -/

namespace Sys2Proof.Machine

/-- One line of `mix` (R160), `x <- x - z; x <- x ^ rotl32(z, k); z <- z + y`, answering the new `x` and `z`. -/
def mixLine (x y z : Word) (k : Nat) : Word × Word := ((x - z) ^^^ rotl32 z k, z + y)

/-- `mix` (R160): six lines, each on the values the line before left. -/
def lookup3Mix (w : Lookup3Work) : Lookup3Work :=
  let (a, c) := mixLine w.a w.b w.c 4
  let (b, a) := mixLine w.b c a 6
  let (c, b) := mixLine c a b 8
  let (a, c) := mixLine a b c 16
  let (b, a) := mixLine b c a 19
  let (c, b) := mixLine c a b 4
  ⟨a, b, c⟩

/-- One line of `final` (R161): `x <- x ^ y; x <- x - rotl32(y, k)`. -/
def finalLine (x y : Word) (k : Nat) : Word := (x ^^^ y) - rotl32 y k

/-- `final` (R161): seven lines. -/
def lookup3Final (w : Lookup3Work) : Lookup3Work :=
  let c := finalLine w.c w.b 14
  let a := finalLine w.a c 11
  let b := finalLine w.b a 25
  let c := finalLine c b 16
  let a := finalLine a c 4
  let b := finalLine b a 14
  let c := finalLine c b 24
  ⟨a, b, c⟩

/-- The input word `W(p)` (R162). -/
def lookup3Word (msg : Nat → Byte) (p : Nat) : Word := le32 (msg p) (msg (p + 1)) (msg (p + 2)) (msg (p + 3))

/-- Byte `k` of a tail of `n` bytes at `p`: zero from `n` on, so no byte past the message enters a word (R162). -/
def tailByte (msg : Nat → Byte) (p n k : Nat) : Byte := if k < n then msg (p + k) else 0

/-- The tail word `Tail(p, n, o)` (R162, R168). -/
def lookup3Tail (msg : Nat → Byte) (p n o : Nat) : Word :=
  le32 (tailByte msg p n o) (tailByte msg p n (o + 1)) (tailByte msg p n (o + 2)) (tailByte msg p n (o + 3))

/-- The loop `while n > 12` of R165: it answers `p`, `n` and the registers it leaves. `fuel` bounds the rounds. -/
def lookup3Loop (msg : Nat → Byte) : (fuel p n : Nat) → Lookup3Work → Nat × Nat × Lookup3Work
  | 0, p, n, w => (p, n, w)
  | fuel + 1, p, n, w =>
    if 12 < n then
      lookup3Loop msg fuel (p + 12) (n - 12)
        (lookup3Mix ⟨w.a + lookup3Word msg p, w.b + lookup3Word msg (p + 4), w.c + lookup3Word msg (p + 8)⟩)
    else (p, n, w)

/-- What follows the loop (R165): nothing for n = 0 (R167), else the tail and `final`. -/
def lookup3Finish (msg : Nat → Byte) (p n : Nat) (w : Lookup3Work) : Lookup3Work :=
  if n = 0 then w
  else lookup3Final ⟨w.a + lookup3Tail msg p n 0, w.b + lookup3Tail msg p n 4, w.c + lookup3Tail msg p n 8⟩

/-- The three registers start equal (R165). -/
def lookup3Start (len seed : Word) : Lookup3Work :=
  let v := 0xDEADBEEF#32 + len + seed
  ⟨v, v, v⟩

/-- LOOKUP3 (R165); the digest is `w.c`. The rounds are at most `len / 12`. -/
def lookup3Run (msg : Nat → Byte) (len seed : Word) : Lookup3Work :=
  let (p, n, w) := lookup3Loop msg (len.toNat / 12) 0 len.toNat (lookup3Start len seed)
  lookup3Finish msg p n w

/-- STATUS.L3PATH of a source address (R163): 3 for the word path, 2 for the half-word path, 1 for the byte path. -/
def lookup3Path (src : Word) : BitVec 2 :=
  if src.getLsbD 0 then 1 else if src.getLsbD 1 then 2 else 3

end Sys2Proof.Machine
end

