-- ==== Sys2Proof/Machine/Md5.lean ====
section
/-! DEFINITION. The units `md5_padding_engine` and `md5_compressor_64round` (spec/45_md5.md R190 to R199). `msg j` is
`Msg[j]`. -/

namespace Sys2Proof.Machine

/-! ## Padding engine -/

/-- `z` of R190: the least count of zero bytes that brings the length, after the byte 0x80, to 56 mod 64. -/
def md5ZeroCount (len : Nat) : Nat := (119 - len % 64) % 64

/-- `|P|` of R190. -/
def md5PaddedLength (len : Nat) : Nat := 64 * ((len + 8) / 64 + 1)

/-- The padded message `P` of R190; the length field holds the bit length mod 2^32 (R193). -/
def md5Pad (msg : Nat → Byte) (len : Nat) : List Byte :=
  (List.range len).map msg ++ [0x80#8] ++ List.replicate (md5ZeroCount len) 0#8 ++
    leBytes (BitVec.ofNat 32 (8 * len)) ++ List.replicate 4 0#8

/-- The padded message does not fit `MD5_PAD_CAPACITY` (R191). -/
def md5OverCapacity (p : Params) (len : Nat) : Bool :=
  match p.md5PadBlocks with
  | none => false
  | some n => decide (64 * (n + 1) < md5PaddedLength len)

/-! ## Compressor -/

/-- The shift table S (R194). -/
def md5Shift (i : Nat) : Nat :=
  let row := match i / 16 with
    | 0 => [7, 12, 17, 22]
    | 1 => [5, 9, 14, 20]
    | 2 => [4, 11, 16, 23]
    | _ => [6, 10, 15, 21]
  row.getD (i % 4) 0

/-- The constant table K (R195). -/
def md5KTable : List Word :=
  [0xD76AA478#32, 0xE8C7B756#32, 0x242070DB#32, 0xC1BDCEEE#32,
   0xF57C0FAF#32, 0x4787C62A#32, 0xA8304613#32, 0xFD469501#32,
   0x698098D8#32, 0x8B44F7AF#32, 0xFFFF5BB1#32, 0x895CD7BE#32,
   0x6B901122#32, 0xFD987193#32, 0xA679438E#32, 0x49B40821#32] ++
  [0xF61E2562#32, 0xC040B340#32, 0x265E5A51#32, 0xE9B6C7AA#32,
   0xD62F105D#32, 0x02441453#32, 0xD8A1E681#32, 0xE7D3FBC8#32,
   0x21E1CDE6#32, 0xC33707D6#32, 0xF4D50D87#32, 0x455A14ED#32,
   0xA9E3E905#32, 0xFCEFA3F8#32, 0x676F02D9#32, 0x8D2A4C8A#32] ++
  [0xFFFA3942#32, 0x8771F681#32, 0x6D9D6122#32, 0xFDE5380C#32,
   0xA4BEEA44#32, 0x4BDECFA9#32, 0xF6BB4B60#32, 0xBEBFBC70#32,
   0x289B7EC6#32, 0xEAA127FA#32, 0xD4EF3085#32, 0x04881D05#32,
   0xD9D4D039#32, 0xE6DB99E5#32, 0x1FA27CF8#32, 0xC4AC5665#32] ++
  [0xF4292244#32, 0x432AFF97#32, 0xAB9423A7#32, 0xFC93A039#32,
   0x655B59C3#32, 0x8F0CCC92#32, 0xFFEFF47D#32, 0x85845DD1#32,
   0x6FA87E4F#32, 0xFE2CE6E0#32, 0xA3014314#32, 0x4E0811A1#32,
   0xF7537E82#32, 0xBD3AF235#32, 0x2AD7D2BB#32, 0xEB86D391#32]

/-- `K[i]` (R195). -/
def md5K (i : Nat) : Word := md5KTable.getD i 0#32

/-- The round function F of R196. -/
def md5F (i : Nat) (b c d : Word) : Word :=
  match i / 16 with
  | 0 => (b &&& c) ||| (~~~b &&& d)
  | 1 => (d &&& b) ||| (~~~d &&& c)
  | 2 => b ^^^ c ^^^ d
  | _ => c ^^^ (b ||| ~~~d)

/-- The message word index g of R196. -/
def md5G (i : Nat) : Nat :=
  match i / 16 with
  | 0 => i
  | 1 => (5 * i + 1) % 16
  | 2 => (3 * i + 5) % 16
  | _ => (7 * i) % 16

/-- Word `k` of block `blk` of the padded message, little-endian (R197, 20_memory.md R56). -/
def md5BlockWord (pad : List Byte) (blk k : Nat) : Word :=
  let at' := fun j => pad.getD (64 * blk + 4 * k + j) 0#8
  le32 (at' 0) (at' 1) (at' 2) (at' 3)

/-- Round `i` of R197 with the message words `m`: A, D and C move at once, and B is added to as it entered the round. -/
def md5Round (m : Nat → Word) (w : Md5Work) (i : Nat) : Md5Work :=
  let w := { w with f := md5F i w.b w.c w.d }
  let w := { w with f := w.f + w.a + md5K i + m (md5G i) }
  { w with a := w.d, d := w.c, c := w.b, b := w.b + rotl32 w.f (md5Shift i) }

/-- `compress` (R197) on block `blk` of `w.pad`. -/
def md5Compress (w : Md5Work) (blk : Nat) : Md5Work :=
  let w := { w with a := w.h0, b := w.h1, c := w.h2, d := w.h3 }
  let w := forRange 0 64 w (md5Round (md5BlockWord w.pad blk))
  { w with h0 := w.h0 + w.a, h1 := w.h1 + w.b, h2 := w.h2 + w.c, h3 := w.h3 + w.d }

/-- MD5 (R198), after the checks; the digest is `w.H[0..3]`. -/
def md5Run (msg : Nat → Byte) (len : Nat) (w : Md5Work) : Md5Work :=
  let w := { w with
    pad := md5Pad msg len
    h0 := 0x67452301#32, h1 := 0xEFCDAB89#32, h2 := 0x98BADCFE#32, h3 := 0x10325476#32 }
  forRange 0 (w.pad.length / 64) w md5Compress

end Sys2Proof.Machine
end

