-- ==== Sys2Proof/Machine/Flags.lean ====
section
/-! DEFINITION. Every rule that sets or reads a flag: the STATUS fields and CTRL.IE (spec/10_state.md R20, R22, R23, R33), the
error codes (spec/60_exceptions.md R223) and the IRQ level (R230). No operation has arithmetic flags (R33). -/

namespace Sys2Proof.Machine

/-- The errors a completion can end with: `HashError(code, addr)` of 00_scope.md R13, codes of R223. -/
inductive HashError where
  /-- `lop` is reserved (R224). -/
  | illegalOp
  /-- PEARSON with `llen = 0` (41_pearson.md R121). -/
  | precond
  /-- The first unreadable address of the footprint (20_memory.md R54). -/
  | busError (addr : Nat)
  /-- The padded MD5 message is larger than `MD5_PAD_CAPACITY` (45_md5.md R191). -/
  | capacity
deriving DecidableEq, Repr

/-- STATUS.ERRCODE of an error (R223). -/
def HashError.code : HashError → BitVec 4
  | .illegalOp => 1
  | .precond => 2
  | .busError _ => 3
  | .capacity => 4

/-- A read of CTRL (R94): START and the reserved bits read 0. -/
def Ctrl.read (c : Ctrl) : Word :=
  (c.op.setWidth 32 <<< 4) ||| ((BitVec.ofBool c.ie).setWidth 32 <<< 1)

/-- A read of STATUS (R96): the reserved bits read 0, and nothing is cleared. -/
def Status.read (st : Status) : Word :=
  (BitVec.ofBool st.busy).setWidth 32 ||| ((BitVec.ofBool st.done).setWidth 32 <<< 1) |||
  ((BitVec.ofBool st.err).setWidth 32 <<< 2) ||| ((BitVec.ofBool st.busyErr).setWidth 32 <<< 3) |||
  (st.errCode.setWidth 32 <<< 4) ||| (st.l3path.setWidth 32 <<< 8)

/-- A host write of STATUS (R95): DONE, ERR and BUSYERR are write-1-to-clear, every other bit ignores the write. -/
def Status.w1c (st : Status) (v : Word) : Status :=
  { st with
    done := st.done && !v.getLsbD 1
    err := st.err && !v.getLsbD 2
    busyErr := st.busyErr && !v.getLsbD 3 }

/-- STATUS at an accepted START (R92): BUSYERR is kept. -/
def Status.onStart (st : Status) : Status :=
  { st with busy := true, done := false, err := false, errCode := 0, l3path := 0 }

/-- STATUS at a dropped START (R93). -/
def Status.onDrop (st : Status) : Status :=
  { st with busyErr := true }

/-- STATUS at a success completion (R221); `path` is the path value of a LOOKUP3. -/
def Status.onSuccess (st : Status) (path : Option (BitVec 2)) : Status :=
  { st with busy := false, done := true, l3path := path.getD st.l3path }

/-- STATUS at an error completion (R222). -/
def Status.onError (st : Status) (e : HashError) : Status :=
  { st with busy := false, done := true, err := true, errCode := e.code }

/-- The IRQ level (R230): a function of the register block at every instant (R39). -/
def RegBlock.irq (r : RegBlock) : Bool := r.ctrl.ie && (r.status.done || r.status.err)

end Sys2Proof.Machine
end

