-- ==== Sys2Proof/Machine/Operands.lean ====
section
/-! DEFINITION. The operand forms: operations by OP value (spec/30_encoding.md R72), operands latched at START
(spec/10_state.md R36, spec/30_encoding.md R73), the footprint of an operation (spec/20_memory.md R53) and which of its
addresses may be read (R51, R52). -/

namespace Sys2Proof.Machine

/-- The eight operations (R72). -/
inductive Op where
  | pearson | crc32t | crc32b | sdbm | fnv1a | oat | lookup3 | md5
deriving DecidableEq, Repr

/-- The operation of an OP value, `none` for the reserved values 0x0 and 0x9 to 0xF (R72, R75). -/
def opOfBits (b : BitVec 4) : Option Op :=
  match b.toNat with
  | 1 => some .pearson
  | 2 => some .crc32t
  | 3 => some .crc32b
  | 4 => some .sdbm
  | 5 => some .fnv1a
  | 6 => some .oat
  | 7 => some .lookup3
  | 8 => some .md5
  | _ => none

/-- What an accepted START copies: the OP of the value written and the operand registers as they stand (R36, R73). -/
def latchOperands (r : RegBlock) (op : BitVec 4) : Latched := ⟨op, r.src, r.len, r.seed, r.tbl⟩

/-- `count` byte addresses from `base` on, as integers: addresses do not wrap (R51). -/
structure Segment where
  base : Nat
  count : Nat
deriving DecidableEq, Repr

/-- The addresses of a segment in order. -/
def segmentAddrs (g : Segment) : List Nat := (List.range g.count).map (g.base + ·)

/-- `a` is one of the addresses of a segment. -/
def segmentHas (g : Segment) (a : Nat) : Bool := decide (g.base ≤ a) && decide (a < g.base + g.count)

/-- The parts of the footprint of R53, in check order: the buffer, with the sentinel byte for LOOKUP3, and then the
256-byte Pearson table or the 1024-byte CRC table. -/
def footprintSegments (op : Op) (l : Latched) : List Segment :=
  match op with
  | .pearson => [⟨l.src.toNat, l.len.toNat⟩, ⟨l.tbl.toNat, 256⟩]
  | .crc32t => [⟨l.src.toNat, l.len.toNat⟩, ⟨l.tbl.toNat, 1024⟩]
  | .crc32b => [⟨l.src.toNat, l.len.toNat⟩]
  | .sdbm => [⟨l.src.toNat, l.len.toNat⟩]
  | .fnv1a => [⟨l.src.toNat, l.len.toNat⟩]
  | .oat => [⟨l.src.toNat, l.len.toNat⟩]
  | .lookup3 => [⟨l.src.toNat, l.len.toNat + 1⟩]
  | .md5 => [⟨l.src.toNat, l.len.toNat⟩]

/-- The footprint of an operation: its byte addresses in check order (R53). -/
def footprint (op : Op) (l : Latched) : List Nat := (footprintSegments op l).flatMap segmentAddrs

/-- `a` is in the footprint of the operation the latches name; a reserved OP has none (R53). -/
def inFootprint (l : Latched) (a : Nat) : Bool :=
  match opOfBits l.op with
  | some op => (footprintSegments op l).any (segmentHas · a)
  | none => false

/-- `a` lies in a region. -/
def regionHas (r : Region) (a : Nat) : Bool := decide (r.base ≤ a) && decide (a < r.base + r.size)

/-- The read port may read `a` (R51). -/
def memReadable (p : Params) (a : Nat) : Bool :=
  decide (a < addressSpace) && p.readable.any (regionHas · a)

/-- Reading `a` would have a side effect (R52). -/
def readHasSideEffect (p : Params) (a : Nat) : Bool := p.sideEffect.any (regionHas · a)

/-- The value at `a` can change without a host store (R52). -/
def changesAlone (p : Params) (a : Nat) : Bool := p.volatile.any (regionHas · a)

/-- The first address of the footprint that is not readable (R54). -/
def firstUnreadable (p : Params) (op : Op) (l : Latched) : Option Nat :=
  (footprint op l).find? fun a => !memReadable p a

/-- The refusal that R52 demands of a model that points the core at a region whose reads have side effects or whose value
changes without a host store; `none` when the footprint touches neither (log 12). -/
def regionRefusal (p : Params) (op : Op) (l : Latched) : Option Refusal :=
  if (footprint op l).any (readHasSideEffect p) then some .sideEffectRegion
  else if (footprint op l).any (changesAlone p) then some .volatileRegion
  else none

end Sys2Proof.Machine
end

