-- ==== Sys2Proof/Machine/Ops.lean ====
section
/-! DEFINITION. The named operations over memory and registers that every meaning is written with: memory, field updates, host
reads and writes, START, the error completion with its acknowledgement, and the events that are no transaction. -/

namespace Sys2Proof.Machine

/-! ## System memory (spec/20_memory.md) -/

/-- The canonical form: addresses strictly rising and inside the address space, and no entry that says what an unlisted
address reads as, so that equal memories are equal data. -/
abbrev Memory.wf (m : Memory) : Prop :=
  m.Pairwise (fun x y => x.1 < y.1) ∧ ∀ c ∈ m, c.1 < addressSpace ∧ c.2 ≠ unlistedByte

/-- `MemRead(addr, 1)` of 00_scope.md R12: the byte stored at an address; a read changes nothing (R52). -/
def memRead (m : Memory) (a : Nat) : Byte :=
  match m with
  | [] => unlistedByte
  | (k, b) :: rest => if k = a then b else memRead rest a

/-- `MemRead(addr, 4)` of R12: four bytes, little-endian (R56). -/
def memRead32 (m : Memory) (a : Nat) : Word :=
  le32 (memRead m a) (memRead m (a + 1)) (memRead m (a + 2)) (memRead m (a + 3))

/-- A cell in front of a memory, left out when it says what an unlisted address reads as. -/
def consCell (a : Nat) (b : Byte) (rest : Memory) : Memory :=
  if b = unlistedByte then rest else (a, b) :: rest

/-- A host store of one byte. The core itself has no store (R50). -/
def memWrite (m : Memory) (a : Nat) (b : Byte) : Memory :=
  match m with
  | [] => consCell a b []
  | (k, c) :: rest =>
    if a < k then consCell a b ((k, c) :: rest)
    else if a = k then consCell a b rest
    else (k, c) :: memWrite rest a b

/-! ## Field updates -/

/-- The four words of a digest, RESULT0..3 (R29). -/
structure Digest where
  w0 : Word
  w1 : Word
  w2 : Word
  w3 : Word
deriving DecidableEq, Repr

def State.setCtrl (s : State) (c : Ctrl) : State := { s with regs := { s.regs with ctrl := c } }
def State.setStatus (s : State) (st : Status) : State := { s with regs := { s.regs with status := st } }
def State.setSrc (s : State) (v : Word) : State := { s with regs := { s.regs with src := v } }
def State.setLen (s : State) (v : Word) : State := { s with regs := { s.regs with len := v } }
def State.setSeed (s : State) (v : Word) : State := { s with regs := { s.regs with seed := v } }
def State.setTbl (s : State) (v : Word) : State := { s with regs := { s.regs with tbl := v } }
def State.setErrAddr (s : State) (v : Word) : State := { s with regs := { s.regs with errAddr := v } }
def State.setResults (s : State) (d : Digest) : State :=
  { s with regs := { s.regs with result0 := d.w0, result1 := d.w1, result2 := d.w2, result3 := d.w3 } }
def State.setRegs (s : State) (r : RegBlock) : State := { s with regs := r }
def State.setLatched (s : State) (l : Latched) : State := { s with latched := l }
def State.setWork (s : State) (w : Work) : State := { s with work := w }
def State.setFaults (s : State) (f : ModelFaults) : State := { s with faults := f }
def State.setMem (s : State) (m : Memory) : State := { s with mem := m }
def State.setRaced (s : State) (b : Bool) : State := { s with raced := b }
def State.setReadData (s : State) (v : Word) : State := { s with readData := v }
def State.setInbox (s : State) (es : List Event) : State := { s with inbox := es }
def State.setFreeCount (s : State) (n : Nat) : State := { s with freeCount := n }

/-! ## Free values (log 13) -/

/-- Four free words, for the digest of a raced operation (20_memory.md R61). -/
def freeDigest (n : Nat) : Digest :=
  ⟨Config.freeWord n 0, Config.freeWord n 1, Config.freeWord n 2, Config.freeWord n 3⟩

/-- Unspecified latched operands (70_reset_and_hazards.md R250). -/
def freeLatched (n : Nat) : Latched :=
  ⟨Config.freeOp n, Config.freeWord n 0, Config.freeWord n 1, Config.freeWord n 2, Config.freeWord n 3⟩

/-- Unspecified working registers (10_state.md R34). -/
def freeWork (n : Nat) : Work where
  pearson := ⟨Config.freeWord n 4, Config.freeByte n⟩
  crc32t := ⟨Config.freeWord n 5⟩
  crc32b := ⟨Config.freeWord n 6⟩
  sdbm := ⟨Config.freeWord n 7⟩
  fnv1a := ⟨Config.freeWord n 8⟩
  oat := ⟨Config.freeWord n 9⟩
  lookup3 := ⟨Config.freeWord n 10, Config.freeWord n 11, Config.freeWord n 12⟩
  md5 := ⟨Config.freeWord n 13, Config.freeWord n 14, Config.freeWord n 15, Config.freeWord n 16, Config.freeWord n 17,
    Config.freeWord n 18, Config.freeWord n 19, Config.freeWord n 20, Config.freeWord n 21, Config.freePad n⟩

/-! ## Host reads and writes of the register block (spec/40_register_access.md) -/

/-- What a read of a slot returns (R94, R96, R101 to R109; reserved slots read 0, R111). -/
def RegBlock.readSlot (r : RegBlock) : Slot → Word
  | .ctrl => r.ctrl.read
  | .status => r.status.read
  | .src => r.src
  | .len => r.len
  | .seed => r.seed
  | .tbl => r.tbl
  | .errAddr => r.errAddr
  | .result0 => r.result0
  | .result1 => r.result1
  | .result2 => r.result2
  | .result3 => r.result3
  | .res1C => 0
  | .res30 => 0
  | .res34 => 0
  | .res38 => 0
  | .res3C => 0

/-- A host read of a slot: the value is returned and nothing in the core changes. -/
def State.hostRead (s : State) (slot : Slot) : State := s.setReadData (s.regs.readSlot slot)

/-- A write of CTRL with START = 0 (R91): IE and OP are stored, also while BUSY = 1. -/
def State.writeCtrl (s : State) (v : Word) : State := s.setCtrl ⟨ctrlIe v, ctrlOp v⟩

/-- An accepted START (R92): IE and OP stored, operands latched, BUSY set, the old outcome cleared. -/
def State.acceptStart (s : State) (ie : Bool) (op : BitVec 4) : State :=
  ((((s.setLatched (latchOperands s.regs op)).setCtrl ⟨ie, op⟩).setStatus s.regs.status.onStart).setErrAddr 0).setRaced false

/-- A dropped START (R93, 60_exceptions.md R226): only BUSYERR changes. -/
def State.dropStart (s : State) : State := s.setStatus s.regs.status.onDrop

/-- A write of CTRL with START = 1: accepted while BUSY = 0 (R92), dropped while BUSY = 1 (R93). -/
def State.startCommand (s : State) (ie : Bool) (op : BitVec 4) : State :=
  if s.regs.status.busy then s.dropStart else s.acceptStart ie op

/-! ## The error completion and its acknowledgement (spec/60_exceptions.md) -/

/-- `raise HashError(e)`: the error completion of R222, the machine's one exception. It saves the code in STATUS and, for
BUS_ERROR, the address mod 2^32 in ERRADDR; RESULT0..3 are unchanged. DESIGN CHOICE: the latched operands, which may hold any
value between operations (93_implementation_defined.md U18), stay as they are (log 26). -/
def State.completeError (s : State) (e : HashError) : State :=
  let t := (s.setStatus (s.regs.status.onError e)).setRaced false
  match e with
  | .busError a => t.setErrAddr (BitVec.ofNat 32 a)
  | .illegalOp => t
  | .precond => t
  | .capacity => t

/-- The return from it (R229): a write-1-to-clear of STATUS (R95). -/
def State.acknowledge (s : State) (v : Word) : State := s.setStatus (s.regs.status.w1c v)

/-! ## Events that are no transaction -/

/-- An access that is no BUS transaction by R90: BUS_ACCESS is recorded (R255) and the block is unchanged. -/
def State.recordBusAccess (s : State) : State := s.setFaults { s.faults with busAccess := true }

/-- A read that is no BUS transaction by R90: what it returns has no meaning in the spec, so the host gets a free value (log 17). -/
def State.malformedRead (s : State) : State :=
  (s.recordBusAccess.setReadData (Config.freeWord s.freeCount 0)).setFreeCount (s.freeCount + 1)

/-- The operation in flight has `a` in its footprint. -/
def State.racesAt (s : State) (a : Nat) : Bool := s.regs.status.busy && inFootprint s.latched a

/-- A host store of one byte: a store to the footprint in flight is FOOTPRINT_RACE (20_memory.md R61, R255). -/
def State.hostStore (s : State) (a : Nat) (b : Byte) : State :=
  let t := s.setMem (memWrite s.mem a b)
  if s.racesAt a then (t.setFaults { s.faults with footprintRace := true }).setRaced true else t

/-- The reset event (70_reset_and_hazards.md R250): the block is zero and the engine IDLE, the operation in flight is
abandoned, latches and working registers are unspecified; model faults and memory are kept (log 20, 25). -/
def State.resetCore (s : State) : State :=
  ((((s.setRegs RegBlock.reset).setLatched (freeLatched s.freeCount)).setWork (freeWork s.freeCount)).setRaced false).setFreeCount
    (s.freeCount + 1)

/-- The IRQ output of the machine (R230). -/
def State.irq (s : State) : Bool := s.regs.irq

end Sys2Proof.Machine
end

