-- ==== Sys2Proof/Machine/Pearson.lean ====
section
/-! DEFINITION. The unit `pearson_hash_4round` (spec/41_pearson.md R120 to R123). `msg j` is `Msg[j]` and `tab k` is `T[k]`. -/

namespace Sys2Proof.Machine

/-- Round `i` of R120: seed the running byte from `Msg[0] + i` mod 256, run the message through the table from index `j0`
(`PEARSON_J_START`, R122) to `len - 1`, and pack the byte at bits 8i+7 : 8i. -/
def pearsonRound (msg : Nat → Byte) (tab : Byte → Byte) (j0 len : Nat) (w : PearsonWork) (i : Nat) : PearsonWork :=
  let w := { w with h := tab (msg 0 + BitVec.ofNat 8 i) }
  let w := forRange j0 len w fun w j => { w with h := tab (w.h ^^^ msg j) }
  { w with res := w.res ||| (zext32 w.h <<< (8 * i)) }

/-- PEARSON (R120), after the checks; the digest is `w.res`. -/
def pearsonRun (msg : Nat → Byte) (tab : Byte → Byte) (j0 len : Nat) (w : PearsonWork) : PearsonWork :=
  forRange 0 4 { w with res := 0 } (pearsonRound msg tab j0 len)

end Sys2Proof.Machine
end

