-- ==== Sys2Proof/Machine/Completion.lean ====
section
/-! DEFINITION. The engine's one step, the completion (spec/60_exceptions.md R220 to R225, R227): the checks in their order, the
operation's digest, and the success completion. The error completion is `State.completeError` of Machine/Ops.lean. -/

namespace Sys2Proof.Machine

/-- `Msg[j]` of the operation in flight (00_scope.md R12): read at the completion, as 20_memory.md R62 allows. -/
def State.msg (s : State) (j : Nat) : Byte := memRead s.mem (s.latched.src.toNat + j)

/-- `T[k]` (41_pearson.md R120). -/
def State.pearsonTable (s : State) (k : Byte) : Byte := memRead s.mem (s.latched.tbl.toNat + k.toNat)

/-- `CT[k]` (42_crc32.md R131). -/
def State.crcTable (s : State) (k : Byte) : Word := memRead32 s.mem (s.latched.tbl.toNat + 4 * k.toNat)

/-- The checks of R225 for an operation that is not reserved, in their order; the first that applies is reported. -/
def State.checkOp (s : State) (op : Op) : Option HashError :=
  if op = .pearson ∧ s.latched.len = 0 then some .precond
  else if op = .md5 ∧ md5OverCapacity s.params s.latched.len.toNat then some .capacity
  else (firstUnreadable s.params op s.latched).map .busError

/-- The working registers after the operation's rule has run (R120, R132, R133, R145 to R147, R165, R198). -/
def State.runOp (s : State) (op : Op) : Work :=
  let len := s.latched.len.toNat
  match op with
  | .pearson =>
    { s.work with pearson := pearsonRun s.msg s.pearsonTable s.params.pearsonJStart.val len s.work.pearson }
  | .crc32t => { s.work with crc32t := crcRun s.msg s.crcTable len s.work.crc32t }
  | .crc32b => { s.work with crc32b := crcRun s.msg computeCRC len s.work.crc32b }
  | .sdbm => { s.work with sdbm := sdbmRun s.msg len s.work.sdbm }
  | .fnv1a => { s.work with fnv1a := fnv1aRun s.msg len s.work.fnv1a }
  | .oat => { s.work with oat := oatRun s.msg len s.work.oat }
  | .lookup3 => { s.work with lookup3 := lookup3Run s.msg s.latched.len s.latched.seed }
  | .md5 => { s.work with md5 := md5Run s.msg len s.work.md5 }

/-- A 32-bit digest: RESULT1..3 are written 0 (10_state.md R29). -/
def digest32 (w : Word) : Digest := ⟨w, 0, 0, 0⟩

/-- The digest the working registers hold when the rule ends (R29; for MD5 in register order, 45_md5.md R198). -/
def digestOf (op : Op) (w : Work) : Digest :=
  match op with
  | .pearson => digest32 w.pearson.res
  | .crc32t => digest32 w.crc32t.r
  | .crc32b => digest32 w.crc32b.r
  | .sdbm => digest32 w.sdbm.h
  | .fnv1a => digest32 w.fnv1a.h
  | .oat => digest32 w.oat.h
  | .lookup3 => digest32 w.lookup3.c
  | .md5 => ⟨w.md5.h0, w.md5.h1, w.md5.h2, w.md5.h3⟩

/-- The 16 bytes a host prints for an MD5 digest: RESULT0..3, each least significant byte first (45_md5.md R199). -/
def digestBytes (d : Digest) : List Byte := leBytes d.w0 ++ leBytes d.w1 ++ leBytes d.w2 ++ leBytes d.w3

/-- The digest of the operation in flight. -/
def State.opDigest (s : State) (op : Op) : Digest := digestOf op (s.runOp op)

/-- The path value of a LOOKUP3 (44_lookup3.md R163); no other operation has one. -/
def State.opPath (s : State) (op : Op) : Option (BitVec 2) :=
  if op = .lookup3 then some (lookup3Path s.latched.src) else none

/-- The success completion (R221). The digest of a raced operation is any value (20_memory.md R61; log 14), and between
operations the working registers are unspecified (10_state.md R34; log 13). DESIGN CHOICE: the latched operands, which may then
hold any value too (93_implementation_defined.md U18), stay as they are (log 26). -/
def State.completeSuccess (s : State) (op : Op) : State :=
  let digest := if s.raced then freeDigest s.freeCount else s.opDigest op
  ((((s.setResults digest).setStatus (s.regs.status.onSuccess (s.opPath op))).setWork (freeWork s.freeCount)).setRaced
    false).setFreeCount (s.freeCount + 1)

/-- The completion of an operation that is not reserved: the checks, then the refusal of 20_memory.md R52, then success. -/
def State.completeOp (s : State) (op : Op) : Host.Outcome State Fault Refusal :=
  match s.checkOp op with
  | some e => .next (s.completeError e)
  | none =>
    match regionRefusal s.params op s.latched with
    | some r => .refused r
    | none => .next (s.completeSuccess op)

/-- The completion step (R220, R225): a reserved `lop` is ILLEGAL_OP before any other check (R224). -/
def State.complete (s : State) : Host.Outcome State Fault Refusal :=
  match opOfBits s.latched.op with
  | none => .next (s.completeError .illegalOp)
  | some op => s.completeOp op

/-- The engine's turn: the completion while BUSY = 1, nothing while BUSY = 0 (R220; log 15). -/
def State.engineTurn (s : State) : Host.Outcome State Fault Refusal :=
  if s.regs.status.busy then s.complete else .next s

end Sys2Proof.Machine
end

