-- ==== Sys2Proof/Machine/Commands.lean ====
section
/-! DEFINITION. The command rows (format CMD, spec/30_encoding.md R70, R72, R75, R76). A command is a write of its word to CTRL:
accepted while BUSY = 0, when its operands are latched (spec/40_register_access.md R92), dropped while BUSY = 1 (R93). The
digest or the error comes at the completion (Machine/Completion.lean). -/

namespace Sys2Proof.Machine

/-- PEARSON (R120): four table rounds over the message. -/
def execPearson (ie : Bool) (s : State) : Host.Outcome State Fault Refusal := .next (s.startCommand ie 0x1)

/-- CRC32T (R132): CRC-32 with the table at TBL. -/
def execCrc32t (ie : Bool) (s : State) : Host.Outcome State Fault Refusal := .next (s.startCommand ie 0x2)

/-- CRC32B (R133): CRC-32 with computed entries. -/
def execCrc32b (ie : Bool) (s : State) : Host.Outcome State Fault Refusal := .next (s.startCommand ie 0x3)

/-- SDBM (R145). -/
def execSdbm (ie : Bool) (s : State) : Host.Outcome State Fault Refusal := .next (s.startCommand ie 0x4)

/-- FNV1A (R146). -/
def execFnv1a (ie : Bool) (s : State) : Host.Outcome State Fault Refusal := .next (s.startCommand ie 0x5)

/-- OAT (R147). -/
def execOat (ie : Bool) (s : State) : Host.Outcome State Fault Refusal := .next (s.startCommand ie 0x6)

/-- LOOKUP3 (R165), which also reads SEED. -/
def execLookup3 (ie : Bool) (s : State) : Host.Outcome State Fault Refusal := .next (s.startCommand ie 0x7)

/-- MD5 (R198): padding and compression. -/
def execMd5 (ie : Bool) (s : State) : Host.Outcome State Fault Refusal := .next (s.startCommand ie 0x8)

/-- Reserved OP 0x0 (R224): an accepted START, which completes with ILLEGAL_OP. -/
def execReservedOp0 (ie : Bool) (s : State) : Host.Outcome State Fault Refusal := .next (s.startCommand ie 0x0)

/-- Reserved OP 0x9 (R224): an accepted START, which completes with ILLEGAL_OP. -/
def execReservedOp9 (ie : Bool) (s : State) : Host.Outcome State Fault Refusal := .next (s.startCommand ie 0x9)

/-- Reserved OP 0xA (R224): an accepted START, which completes with ILLEGAL_OP. -/
def execReservedOpA (ie : Bool) (s : State) : Host.Outcome State Fault Refusal := .next (s.startCommand ie 0xA)

/-- Reserved OP 0xB (R224): an accepted START, which completes with ILLEGAL_OP. -/
def execReservedOpB (ie : Bool) (s : State) : Host.Outcome State Fault Refusal := .next (s.startCommand ie 0xB)

/-- Reserved OP 0xC (R224): an accepted START, which completes with ILLEGAL_OP. -/
def execReservedOpC (ie : Bool) (s : State) : Host.Outcome State Fault Refusal := .next (s.startCommand ie 0xC)

/-- Reserved OP 0xD (R224): an accepted START, which completes with ILLEGAL_OP. -/
def execReservedOpD (ie : Bool) (s : State) : Host.Outcome State Fault Refusal := .next (s.startCommand ie 0xD)

/-- Reserved OP 0xE (R224): an accepted START, which completes with ILLEGAL_OP. -/
def execReservedOpE (ie : Bool) (s : State) : Host.Outcome State Fault Refusal := .next (s.startCommand ie 0xE)

/-- Reserved OP 0xF (R224): an accepted START, which completes with ILLEGAL_OP. -/
def execReservedOpF (ie : Bool) (s : State) : Host.Outcome State Fault Refusal := .next (s.startCommand ie 0xF)

end Sys2Proof.Machine
end

