-- ==== Sys2Proof/Machine/ControlAccess.lean ====
section
/-! DEFINITION. The transactions on CTRL and STATUS (spec/40_register_access.md R91 to R96). -/

namespace Sys2Proof.Machine

/-- WR.CTRL (R91): IE and OP are stored at once; the operation in flight is not affected. -/
def execWrCtrl (v : Word) (s : State) : Host.Outcome State Fault Refusal := .next (s.writeCtrl v)

/-- START.ACCEPT (R92). BUSY decides whether a START is accepted, so a busy core drops it (log 3). -/
def execStartAccept (v : Word) (s : State) : Host.Outcome State Fault Refusal := .next (s.startCommand (ctrlIe v) (ctrlOp v))

/-- START.DROP (R93). BUSY decides whether a START is dropped, so an idle core accepts it (log 3). -/
def execStartDrop (v : Word) (s : State) : Host.Outcome State Fault Refusal := .next (s.startCommand (ctrlIe v) (ctrlOp v))

/-- RD.CTRL (R94). -/
def execRdCtrl (s : State) : Host.Outcome State Fault Refusal := .next (s.hostRead .ctrl)

/-- WR.STATUS (R95): write-1-to-clear, the acknowledgement of a completion (R229). -/
def execWrStatus (v : Word) (s : State) : Host.Outcome State Fault Refusal := .next (s.acknowledge v)

/-- RD.STATUS (R96). -/
def execRdStatus (s : State) : Host.Outcome State Fault Refusal := .next (s.hostRead .status)

end Sys2Proof.Machine
end

