-- ==== Sys2Proof/Machine/RegisterAccess.lean ====
section
/-! DEFINITION. The transactions on the operand, address and result registers and on the reserved slots
(spec/40_register_access.md R97 to R111). -/

namespace Sys2Proof.Machine

/-- WR.SRC (R97). -/
def execWrSrc (v : Word) (s : State) : Host.Outcome State Fault Refusal := .next (s.setSrc v)

/-- WR.LEN (R98). -/
def execWrLen (v : Word) (s : State) : Host.Outcome State Fault Refusal := .next (s.setLen v)

/-- WR.SEED (R99). -/
def execWrSeed (v : Word) (s : State) : Host.Outcome State Fault Refusal := .next (s.setSeed v)

/-- WR.TBL (R100). -/
def execWrTbl (v : Word) (s : State) : Host.Outcome State Fault Refusal := .next (s.setTbl v)

/-- RD.SRC (R101). -/
def execRdSrc (s : State) : Host.Outcome State Fault Refusal := .next (s.hostRead .src)

/-- RD.LEN (R102). -/
def execRdLen (s : State) : Host.Outcome State Fault Refusal := .next (s.hostRead .len)

/-- RD.SEED (R103). -/
def execRdSeed (s : State) : Host.Outcome State Fault Refusal := .next (s.hostRead .seed)

/-- RD.TBL (R104). -/
def execRdTbl (s : State) : Host.Outcome State Fault Refusal := .next (s.hostRead .tbl)

/-- RD.ERRADDR (R105). -/
def execRdErrAddr (s : State) : Host.Outcome State Fault Refusal := .next (s.hostRead .errAddr)

/-- RD.RESULT0 (R106). -/
def execRdResult0 (s : State) : Host.Outcome State Fault Refusal := .next (s.hostRead .result0)

/-- RD.RESULT1 (R107). -/
def execRdResult1 (s : State) : Host.Outcome State Fault Refusal := .next (s.hostRead .result1)

/-- RD.RESULT2 (R108). -/
def execRdResult2 (s : State) : Host.Outcome State Fault Refusal := .next (s.hostRead .result2)

/-- RD.RESULT3 (R109). -/
def execRdResult3 (s : State) : Host.Outcome State Fault Refusal := .next (s.hostRead .result3)

/-- WR.RO.ERRADDR (R110): nothing changes. -/
def execWrRoErrAddr (_ : Word) (s : State) : Host.Outcome State Fault Refusal := .next s

/-- WR.RO.RESULT0 (R110): nothing changes. -/
def execWrRoResult0 (_ : Word) (s : State) : Host.Outcome State Fault Refusal := .next s

/-- WR.RO.RESULT1 (R110): nothing changes. -/
def execWrRoResult1 (_ : Word) (s : State) : Host.Outcome State Fault Refusal := .next s

/-- WR.RO.RESULT2 (R110): nothing changes. -/
def execWrRoResult2 (_ : Word) (s : State) : Host.Outcome State Fault Refusal := .next s

/-- WR.RO.RESULT3 (R110): nothing changes. -/
def execWrRoResult3 (_ : Word) (s : State) : Host.Outcome State Fault Refusal := .next s

/-- RD.RES.0x1C (R111): reads 0. -/
def execRdRes1C (s : State) : Host.Outcome State Fault Refusal := .next (s.hostRead .res1C)

/-- WR.RES.0x1C (R111): nothing changes. -/
def execWrRes1C (_ : Word) (s : State) : Host.Outcome State Fault Refusal := .next s

/-- RD.RES.0x30 (R111): reads 0. -/
def execRdRes30 (s : State) : Host.Outcome State Fault Refusal := .next (s.hostRead .res30)

/-- WR.RES.0x30 (R111): nothing changes. -/
def execWrRes30 (_ : Word) (s : State) : Host.Outcome State Fault Refusal := .next s

/-- RD.RES.0x34 (R111): reads 0. -/
def execRdRes34 (s : State) : Host.Outcome State Fault Refusal := .next (s.hostRead .res34)

/-- WR.RES.0x34 (R111): nothing changes. -/
def execWrRes34 (_ : Word) (s : State) : Host.Outcome State Fault Refusal := .next s

/-- RD.RES.0x38 (R111): reads 0. -/
def execRdRes38 (s : State) : Host.Outcome State Fault Refusal := .next (s.hostRead .res38)

/-- WR.RES.0x38 (R111): nothing changes. -/
def execWrRes38 (_ : Word) (s : State) : Host.Outcome State Fault Refusal := .next s

/-- RD.RES.0x3C (R111): reads 0. -/
def execRdRes3C (s : State) : Host.Outcome State Fault Refusal := .next (s.hostRead .res3C)

/-- WR.RES.0x3C (R111): nothing changes. -/
def execWrRes3C (_ : Word) (s : State) : Host.Outcome State Fault Refusal := .next s

end Sys2Proof.Machine
end

