-- ==== Sys2Proof/Machine/Dispatch.lean ====
section
/-! DEFINITION. One arm per row of spec/opcode_table.json. -/

namespace Sys2Proof.Machine

def exec (i : Instr) (s : State) : Host.Outcome State Fault Refusal :=
  match i with
  | .pearson ie => Sys2Proof.Machine.execPearson ie s
  | .crc32t ie => Sys2Proof.Machine.execCrc32t ie s
  | .crc32b ie => Sys2Proof.Machine.execCrc32b ie s
  | .sdbm ie => Sys2Proof.Machine.execSdbm ie s
  | .fnv1a ie => Sys2Proof.Machine.execFnv1a ie s
  | .oat ie => Sys2Proof.Machine.execOat ie s
  | .lookup3 ie => Sys2Proof.Machine.execLookup3 ie s
  | .md5 ie => Sys2Proof.Machine.execMd5 ie s
  | .reservedOp0 ie => Sys2Proof.Machine.execReservedOp0 ie s
  | .reservedOp9 ie => Sys2Proof.Machine.execReservedOp9 ie s
  | .reservedOpA ie => Sys2Proof.Machine.execReservedOpA ie s
  | .reservedOpB ie => Sys2Proof.Machine.execReservedOpB ie s
  | .reservedOpC ie => Sys2Proof.Machine.execReservedOpC ie s
  | .reservedOpD ie => Sys2Proof.Machine.execReservedOpD ie s
  | .reservedOpE ie => Sys2Proof.Machine.execReservedOpE ie s
  | .reservedOpF ie => Sys2Proof.Machine.execReservedOpF ie s
  | .wrCtrl v => Sys2Proof.Machine.execWrCtrl v s
  | .startAccept v => Sys2Proof.Machine.execStartAccept v s
  | .startDrop v => Sys2Proof.Machine.execStartDrop v s
  | .rdCtrl => Sys2Proof.Machine.execRdCtrl s
  | .wrStatus v => Sys2Proof.Machine.execWrStatus v s
  | .rdStatus => Sys2Proof.Machine.execRdStatus s
  | .wrSrc v => Sys2Proof.Machine.execWrSrc v s
  | .wrLen v => Sys2Proof.Machine.execWrLen v s
  | .wrSeed v => Sys2Proof.Machine.execWrSeed v s
  | .wrTbl v => Sys2Proof.Machine.execWrTbl v s
  | .rdSrc => Sys2Proof.Machine.execRdSrc s
  | .rdLen => Sys2Proof.Machine.execRdLen s
  | .rdSeed => Sys2Proof.Machine.execRdSeed s
  | .rdTbl => Sys2Proof.Machine.execRdTbl s
  | .rdErrAddr => Sys2Proof.Machine.execRdErrAddr s
  | .rdResult0 => Sys2Proof.Machine.execRdResult0 s
  | .rdResult1 => Sys2Proof.Machine.execRdResult1 s
  | .rdResult2 => Sys2Proof.Machine.execRdResult2 s
  | .rdResult3 => Sys2Proof.Machine.execRdResult3 s
  | .wrRoErrAddr v => Sys2Proof.Machine.execWrRoErrAddr v s
  | .wrRoResult0 v => Sys2Proof.Machine.execWrRoResult0 v s
  | .wrRoResult1 v => Sys2Proof.Machine.execWrRoResult1 v s
  | .wrRoResult2 v => Sys2Proof.Machine.execWrRoResult2 v s
  | .wrRoResult3 v => Sys2Proof.Machine.execWrRoResult3 v s
  | .rdRes1C => Sys2Proof.Machine.execRdRes1C s
  | .wrRes1C v => Sys2Proof.Machine.execWrRes1C v s
  | .rdRes30 => Sys2Proof.Machine.execRdRes30 s
  | .wrRes30 v => Sys2Proof.Machine.execWrRes30 v s
  | .rdRes34 => Sys2Proof.Machine.execRdRes34 s
  | .wrRes34 v => Sys2Proof.Machine.execWrRes34 v s
  | .rdRes38 => Sys2Proof.Machine.execRdRes38 s
  | .wrRes38 v => Sys2Proof.Machine.execWrRes38 v s
  | .rdRes3C => Sys2Proof.Machine.execRdRes3C s
  | .wrRes3C v => Sys2Proof.Machine.execWrRes3C v s

end Sys2Proof.Machine
end

