-- ==== Sys2Proof/Machine/Fetch.lean ====
section
/-! DEFINITION. How the next event becomes a step: the admission of a host access (spec/40_register_access.md R90), the decoding
of a transaction (spec/30_encoding.md R71, R74) and the events that are no transaction. -/

namespace Sys2Proof.Machine

/-- What R90 makes of a host-bus access. -/
inductive Admission where
  /-- A BUS transaction, as its packet. -/
  | bus (packet : List Byte)
  /-- An access to the block that is no BUS transaction: BUS_ACCESS. -/
  | busAccess
  /-- An access that touches no byte of the block: nothing to the core (log 19). -/
  | elsewhere
deriving DecidableEq, Repr

/-- The packet of a BUS transaction at block offset `off` (30_encoding.md R71). -/
def busPacket (write : Bool) (off : Nat) (data : Word) : List Byte :=
  if write then BitVec.ofNat 8 (64 + off) :: leBytes data else [BitVec.ofNat 8 off]

/-- How many bytes an access of `width` bits counts as. DESIGN CHOICE: an access of width 0, which the spec does not have,
counts as one of the byte at its address (log 19). -/
def accessBytes (width : Nat) : Nat := max 1 ((width + 7) / 8)

/-- Admission of an access of `width` bits at `addr` (R90): 32 bits wide and at a multiple of 4 in the block. An access that
overlaps the block in any other way is BUS_ACCESS (log 19). -/
def admission (p : Params) (write : Bool) (addr width : Nat) (data : Word) : Admission :=
  if width = 32 ∧ p.hcBase ≤ addr ∧ addr < p.hcBase + 64 ∧ (addr - p.hcBase) % 4 = 0 then
    .bus (busPacket write (addr - p.hcBase) data)
  else if addr < p.hcBase + 64 ∧ p.hcBase < addr + accessBytes width then .busAccess
  else .elsewhere

/-- The direction bit of a packet whose offset is not aligned: bit 6 of its descriptor (R71). -/
def packetIsWrite (packet : List Byte) : Bool :=
  match packet with
  | d :: _ => d.getLsbD 6
  | [] => false

/-- An access to the block that is no BUS transaction (R90). -/
def State.rejectAccess (s : State) (write : Bool) : State :=
  if write then s.recordBusAccess else s.malformedRead

/-- One transaction: decode the packet and execute it. An unaligned offset is BUS_ACCESS (R71, R90); a packet that is no
encoding is refused (log 18). -/
def State.transact (s : State) (packet : List Byte) : Host.Outcome State Fault Refusal :=
  match decode s.regs.status.busy packet with
  | .ok i => exec i s
  | .error .notAligned => .next (s.rejectAccess (packetIsWrite packet))
  | .error .badDescriptor => .refused .malformedPacket
  | .error .badLength => .refused .malformedPacket

/-- One host-bus access. -/
def State.hostAccess (s : State) (write : Bool) (addr width : Nat) (data : Word) : Host.Outcome State Fault Refusal :=
  match admission s.params write addr width data with
  | .bus packet => s.transact packet
  | .busAccess => .next (s.rejectAccess write)
  | .elsewhere => .next s

/-- One host store to system memory; an address of 2^32 or more does not exist (10_state.md R37; log 16). -/
def State.storeEvent (s : State) (a : Nat) (b : Byte) : Host.Outcome State Fault Refusal :=
  if a < addressSpace then .next (s.hostStore a b) else .fault .noSuchAddress

/-- One event, in the state from whose inbox it has been taken. -/
def State.onEvent (s : State) : Event → Host.Outcome State Fault Refusal
  | .txn packet => s.transact packet
  | .access write addr width data => s.hostAccess write addr width data
  | .store a b => s.storeEvent a b
  | .engine => s.engineTurn
  | .reset => .next s.resetCore

/-- The next step: the first event of the inbox, or the engine's turn when the host has nothing more to do (log 2). -/
def State.advance (s : State) : Host.Outcome State Fault Refusal :=
  match s.inbox with
  | [] => s.engineTurn
  | e :: rest => (s.setInbox rest).onEvent e

end Sys2Proof.Machine
end

