-- ==== Sys2Proof/Machine/Step.lean ====
section
/-! DEFINITION. The step function of the machine, and where a test places the next transaction. -/

namespace Sys2Proof.Machine

/-- One step of the machine: one event of the interleaving of host, engine and reset input (00_scope.md R18). -/
def step (s : State) : Host.Outcome State Fault Refusal := s.advance

/-- `s` with one more host transaction, the row of the opcode table whose bits are `w`, as the next event (log 1). -/
def State.withFetchWord (s : State) (nbits w : Nat) : State :=
  s.setInbox (.txn (tablePacket nbits w) :: s.inbox)

end Sys2Proof.Machine
end

