-- ==== Sys2Proof/Machine/Driver.lean ====
section
/-! DEFINITION. Host programs in the driver syntax of spec/30_encoding.md R77 and R78, run above the core: the statements are host
steps, the transactions among them reach the core through the admission of R90. -/

namespace Sys2Proof.Machine

/-- What a driver statement may access: the registers R77 lists. DESIGN CHOICE: also the five reserved offsets, which the example
of 40_register_access.md R111 (`HR 0x30 -> x`) and vector V-REG-5 write although R77's list has none; no other raw offset
(log 27). -/
inductive DriverReg where
  | ctrl | status | src | len | seed | tbl | errAddr | result0 | result1 | result2 | result3
  | reserved1C | reserved30 | reserved34 | reserved38 | reserved3C
deriving DecidableEq, Repr

/-- The offset of a register (10_state.md R21), or a reserved one (40_register_access.md R111). -/
def driverOffset : DriverReg → Nat
  | .ctrl => 0x00
  | .status => 0x04
  | .src => 0x08
  | .len => 0x0C
  | .seed => 0x10
  | .tbl => 0x14
  | .errAddr => 0x18
  | .result0 => 0x20
  | .result1 => 0x24
  | .result2 => 0x28
  | .result3 => 0x2C
  | .reserved1C => 0x1C
  | .reserved30 => 0x30
  | .reserved34 => 0x34
  | .reserved38 => 0x38
  | .reserved3C => 0x3C

/-- The statements of R77; names and labels are numbers (log 24). -/
inductive Stmt where
  /-- `HW <REG>, <value>`. -/
  | hw (reg : DriverReg) (v : Word)
  /-- `HR <REG> -> <name>`. -/
  | hr (reg : DriverReg) (name : Nat)
  /-- `MW <addr>, <byte>, ...`. -/
  | mw (addr : Nat) (bytes : List Byte)
  /-- `<label>:`. -/
  | label (l : Nat)
  /-- `BNZ <name>, <mask>, <label>`. -/
  | bnz (name : Nat) (mask : Word) (l : Nat)
  /-- `BZ <name>, <mask>, <label>`. -/
  | bz (name : Nat) (mask : Word) (l : Nat)
deriving DecidableEq, Repr

/-- `HC.START <OP>` (R78). -/
def hcStart (op : BitVec 4) : List Stmt := [.hw .ctrl ((op.setWidth 32 <<< 4) + 1)]

/-- `HC.START.I <OP>` (R78). -/
def hcStartI (op : BitVec 4) : List Stmt := [.hw .ctrl ((op.setWidth 32 <<< 4) + 3)]

/-- `HC.WAIT` (R78): poll STATUS until DONE = 1, with the name and the label it uses. -/
def hcWait (name l : Nat) : List Stmt := [.label l, .hr .status name, .bz name 0x2 l]

/-- `HC.CLEAR` (R78). -/
def hcClear : List Stmt := [.hw .status 0x0000000E]

/-- SRC and LEN, which every operation's pseudo-instruction writes first (R78). -/
def hcBuffer (src len : Word) : List Stmt := [.hw .src src, .hw .len len]

/-- `HC.PEARSON src, len, tbl`. -/
def hcPearson (src len tbl : Word) (name l : Nat) : List Stmt :=
  hcBuffer src len ++ [.hw .tbl tbl] ++ hcStart 1 ++ hcWait name l

/-- `HC.CRC32T src, len, tbl`. -/
def hcCrc32t (src len tbl : Word) (name l : Nat) : List Stmt :=
  hcBuffer src len ++ [.hw .tbl tbl] ++ hcStart 2 ++ hcWait name l

/-- `HC.CRC32B src, len`. -/
def hcCrc32b (src len : Word) (name l : Nat) : List Stmt := hcBuffer src len ++ hcStart 3 ++ hcWait name l

/-- `HC.SDBM src, len`. -/
def hcSdbm (src len : Word) (name l : Nat) : List Stmt := hcBuffer src len ++ hcStart 4 ++ hcWait name l

/-- `HC.FNV1A src, len`. -/
def hcFnv1a (src len : Word) (name l : Nat) : List Stmt := hcBuffer src len ++ hcStart 5 ++ hcWait name l

/-- `HC.OAT src, len`. -/
def hcOat (src len : Word) (name l : Nat) : List Stmt := hcBuffer src len ++ hcStart 6 ++ hcWait name l

/-- `HC.LOOKUP3 src, len, seed`. -/
def hcLookup3 (src len seed : Word) (name l : Nat) : List Stmt :=
  hcBuffer src len ++ [.hw .seed seed] ++ hcStart 7 ++ hcWait name l

/-- `HC.MD5 src, len`. -/
def hcMd5 (src len : Word) (name l : Nat) : List Stmt := hcBuffer src len ++ hcStart 8 ++ hcWait name l

/-- A host program in progress beside the core. `turns` says who moves next, `true` the engine; when it is used up the engine
moves while an operation is in flight and the host otherwise, so a polling loop ends (70_reset_and_hazards.md R261). -/
structure DriverRun where
  core : State
  pc : Nat
  names : List (Nat × Word)
  turns : List Bool
deriving DecidableEq, Repr

/-- Why a host program stops. -/
inductive DriverFault where
  /-- The core stopped with a fault. Safe. -/
  | core (f : Fault)
  /-- A branch on a name that holds no value; R77 gives it none. Safe. -/
  | unknownName (name : Nat)
  /-- A branch to a label that stands nowhere. Safe. -/
  | unknownLabel (l : Nat)
deriving DecidableEq, Repr

/-- The outcome of a core step, carried into a run. -/
def driverLift (o : Host.Outcome State Fault Refusal) (k : State → DriverRun) : Host.Outcome DriverRun DriverFault Refusal :=
  match o with
  | .next s => .next (k s)
  | .fault f => .fault (.core f)
  | .refused r => .refused r

/-- Byte stores at `a`, `a + 1`, ... in order. -/
def storeBytes (s : State) (a : Nat) : List Byte → Host.Outcome State Fault Refusal
  | [] => .next s
  | b :: rest =>
    match s.storeEvent a b with
    | .next t => storeBytes t (a + 1) rest
    | .fault f => .fault f
    | .refused r => .refused r

/-- The value a name holds: the last one read into it. -/
def nameValue (names : List (Nat × Word)) (name : Nat) : Option Word :=
  (names.find? fun p => p.1 = name).map Prod.snd

/-- A branch taken when `cond` holds of `<name> & <mask>`. DESIGN CHOICE: where a label stands more than once, as `w` does after
two `HC.WAIT` of R78, the branch goes to its first place; R77 names none (log 24). -/
def driverBranch (prog : List Stmt) (r : DriverRun) (name : Nat) (mask : Word) (l : Nat) (cond : Word → Bool) :
    Host.Outcome DriverRun DriverFault Refusal :=
  match nameValue r.names name with
  | none => .fault (.unknownName name)
  | some v =>
    if cond (v &&& mask) then
      match prog.findIdx? (· = Stmt.label l) with
      | some i => .next { r with pc := i }
      | none => .fault (.unknownLabel l)
    else .next { r with pc := r.pc + 1 }

/-- One host statement. -/
def hostStatement (prog : List Stmt) (r : DriverRun) : Host.Outcome DriverRun DriverFault Refusal :=
  match prog[r.pc]? with
  | none => .next r
  | some (.hw reg v) =>
    driverLift (r.core.hostAccess true (r.core.params.hcBase + driverOffset reg) 32 v) fun s => { r with core := s, pc := r.pc + 1 }
  | some (.hr reg name) =>
    driverLift (r.core.hostAccess false (r.core.params.hcBase + driverOffset reg) 32 0) fun s =>
      { r with core := s, pc := r.pc + 1, names := (name, s.readData) :: r.names }
  | some (.mw a bytes) => driverLift (storeBytes r.core a bytes) fun s => { r with core := s, pc := r.pc + 1 }
  | some (.label _) => .next { r with pc := r.pc + 1 }
  | some (.bnz name mask l) => driverBranch prog r name mask l fun v => v != 0
  | some (.bz name mask l) => driverBranch prog r name mask l fun v => v == 0

/-- One step of a host program and the core together (00_scope.md R18, 60_exceptions.md R232). -/
def driverStep (prog : List Stmt) (r : DriverRun) : Host.Outcome DriverRun DriverFault Refusal :=
  match r.turns with
  | true :: ts => driverLift r.core.engineTurn fun s => { r with core := s, turns := ts }
  | false :: ts => hostStatement prog { r with turns := ts }
  | [] =>
    if r.core.regs.status.busy then driverLift r.core.engineTurn fun s => { r with core := s }
    else hostStatement prog r

/-- `k` steps of a host program and the core together, stopping at the first fault or refusal. -/
def driverSteps (prog : List Stmt) : Nat → DriverRun → Host.Outcome DriverRun DriverFault Refusal
  | 0, r => .next r
  | k + 1, r =>
    match driverStep prog r with
    | .next r' => driverSteps prog k r'
    | .fault f => .fault f
    | .refused e => .refused e

end Sys2Proof.Machine
end

