-- ==== Sys2Proof/Safety.lean ====
section
/-! DEFINITION. What counts as a good state and a good run of the machine, in the terms the claims use. -/

namespace Sys2Proof.Machine

/-- The relations between fields that every step keeps. -/
structure Inv (s : State) : Prop where
  /-- System memory is in the canonical form, which is the model's choice (log 7). -/
  memory : Memory.wf s.mem
  /-- BUSY = 1 implies DONE = 0, ERR = 0, ERRCODE = 0 and L3PATH = 0 (10_state.md R23). -/
  busyClear : s.regs.status.busy = true → s.regs.status.done = false ∧ s.regs.status.err = false ∧
    s.regs.status.errCode = 0 ∧ s.regs.status.l3path = 0
  /-- ERRCODE 5 to 15 is never written (60_exceptions.md R223). -/
  codeDefined : s.regs.status.errCode.toNat ≤ 4
  /-- ERR = 1 has a code that says why (R222). -/
  errHasCode : s.regs.status.err = true → s.regs.status.errCode ≠ 0
  /-- L3PATH is written by a successful LOOKUP3 only (44_lookup3.md R163). That lop still names it after the completion is the
  model's choice, not the spec's: 93_implementation_defined.md U18 leaves lop open then (log 26). -/
  pathMeansLookup3 : s.regs.status.l3path ≠ 0 → s.latched.op = 7 ∧ s.regs.status.errCode = 0
  /-- ERRADDR is 0 unless the last completion was a BUS_ERROR (40_register_access.md R105). -/
  addressMeansBusError : s.regs.errAddr ≠ 0 → s.regs.status.errCode = 3
  /-- Only an operation in flight is raced, and the race is on record (70_reset_and_hazards.md R255); `raced` is the model's own
  (log 14). -/
  racedRecorded : s.raced = true → s.regs.status.busy = true ∧ s.faults.footprintRace = true

/-- No model fault has been recorded: a run that records one proves nothing about later digests (R255). -/
def State.clean (s : State) : Bool := !s.faults.busAccess && !s.faults.footprintRace

/-- The run is over: the host has nothing more to do and no operation is in flight (00_scope.md R19). -/
def State.final (s : State) : Bool := s.inbox.isEmpty && !s.regs.status.busy

/-- One step that answers a next state. -/
def Steps (s t : State) : Prop := step s = .next t

/-- Some number of steps, each answering a next state. -/
inductive Reaches : State → State → Prop where
  | refl (s : State) : Reaches s s
  | tail {s t u : State} : Reaches s t → Steps t u → Reaches s u

end Sys2Proof.Machine
end

