-- ==== Sys2Proof/Certificates/Slice0/Obligations.lean ====
section
/-! DEFINITION. The statements for the provers. Each docstring names the rule of spec/ the statement formalises. -/

namespace Sys2Proof.Claims

open Sys2Proof Sys2Proof.Machine

/-- The next step is the engine's turn: the host has nothing more to do, or the engine is first in the inbox. How the turns are
written down is the model's choice (log 1, 2). -/
def EngineMoves (s : State) : Prop := s.inbox = [] ∨ ∃ rest, s.inbox = .engine :: rest

/-- Every byte of `base .. base + count - 1` is readable (20_memory.md R51), no read of one has a side effect, and none changes
without a host store (R52). -/
def Plain (p : Params) (base count : Nat) : Prop :=
  ∀ k < count, memReadable p (base + k) = true ∧ readHasSideEffect p (base + k) = false ∧
    changesAlone p (base + k) = false

/-- `Msg[0 .. len-1]` at a source address. -/
def message (m : Memory) (src len : Word) : List Byte :=
  (List.range len.toNat).map fun j => memRead m (src.toNat + j)

/-- `u` is `s` after an accepted START of OP `op` with IE `ie` and its success completion (40_register_access.md R92,
60_exceptions.md R221): the digest is in RESULT0..3, STATUS is DONE with BUSYERR kept, and everything the host can see but
these is as it was. Only the working registers, unspecified then (10_state.md R34), are left open. That the latched operands
still hold what the START latched is the model's choice (log 26). -/
def SuccessFrom (s u : State) (ie : Bool) (op : BitVec 4) (path : BitVec 2) (d : Digest) : Prop :=
  u.regs = { s.regs with
    ctrl := ⟨ie, op⟩
    status := ⟨false, true, false, s.regs.status.busyErr, 0, path⟩
    errAddr := 0
    result0 := d.w0, result1 := d.w1, result2 := d.w2, result3 := d.w3 } ∧
  u.latched = ⟨op, s.regs.src, s.regs.len, s.regs.seed, s.regs.tbl⟩ ∧
  u.mem = s.mem ∧ u.params = s.params ∧ u.faults = s.faults ∧ u.readData = s.readData ∧ u.inbox = s.inbox.tail ∧
  u.raced = false

/-- `u` is `s` after an accepted START of OP `op` with IE `ie` and an error completion with `code` (R92, 60_exceptions.md
R222), `addr` in ERRADDR: RESULT0..3 and everything else the host can see are as they were. Only the working registers,
unspecified then (10_state.md R34), are left open. That the latched operands still hold what the START latched is the model's
choice (log 26). -/
def ErrorFrom (s u : State) (ie : Bool) (op : BitVec 4) (code : BitVec 4) (addr : Word) : Prop :=
  u.regs = { s.regs with
    ctrl := ⟨ie, op⟩
    status := ⟨false, true, true, s.regs.status.busyErr, code, 0⟩
    errAddr := addr } ∧
  u.latched = ⟨op, s.regs.src, s.regs.len, s.regs.seed, s.regs.tbl⟩ ∧
  u.mem = s.mem ∧ u.params = s.params ∧ u.faults = s.faults ∧ u.readData = s.readData ∧
  u.inbox = s.inbox.tail ∧ u.raced = false

/-- An accepted START of `i` and then the engine's turn, from an idle state. -/
def RunsTo (i : Instr) (s u : State) : Prop := ∃ t, exec i s = .next t ∧ t.regs.status.busy = true ∧ step t = .next u

/-- One transaction as the host sends it: `exec` of the instruction answers `t`, and a step that takes its packet from the
inbox does the same. The packet's layout is the model's choice (log 4), and so is `readData` for what a read returns (log 6). -/
def Transacts (i : Instr) (packet : List Byte) (s t : State) : Prop :=
  exec i s = .next t ∧ ∀ rest, step { s with inbox := .txn packet :: rest } = .next { t with inbox := rest }

/-- The addresses an operation may read, in check order (20_memory.md R53). -/
def addresses (base count : Nat) : List Nat := (List.range count).map (base + ·)

/-! ### The kernels of the rules, written out here so that no digest statement leans on the model's own -/

/-- Four bytes as a word, the first in bits 7:0 (00_scope.md R10). -/
def word32 (b0 b1 b2 b3 : Byte) : Word := b3 ++ b2 ++ b1 ++ b0

/-- `rotl32` for 0 < k < 32 (00_scope.md R9). -/
def rotl (x : Word) (k : Nat) : Word := (x <<< k) ||| (x >>> (32 - k))

/-- The entry of a byte in the CRC table (42_crc32.md R130): eight steps, the low bit tested before the shift. -/
def crcEntry (n : Byte) : Word :=
  (List.range 8).foldl (fun c _ => if c &&& 1#32 = 1#32 then (c >>> 1) ^^^ 0xEDB88320#32 else c >>> 1) (n.setWidth 32)

/-- `mix` (44_lookup3.md R160), one line of the rule a row. -/
def mixSteps (a b c : Word) : Word × Word × Word :=
  let a := a - c; let a := a ^^^ rotl c 4; let c := c + b
  let b := b - a; let b := b ^^^ rotl a 6; let a := a + c
  let c := c - b; let c := c ^^^ rotl b 8; let b := b + a
  let a := a - c; let a := a ^^^ rotl c 16; let c := c + b
  let b := b - a; let b := b ^^^ rotl a 19; let a := a + c
  let c := c - b; let c := c ^^^ rotl b 4; let b := b + a
  (a, b, c)

/-- The `c` of `final` (44_lookup3.md R161), the only register of it that is used, one line of the rule a row. -/
def finalSteps (a b c : Word) : Word :=
  let c := c ^^^ b; let c := c - rotl b 14
  let a := a ^^^ c; let a := a - rotl c 11
  let b := b ^^^ a; let b := b - rotl a 25
  let c := c ^^^ b; let c := c - rotl b 16
  let a := a ^^^ c; let a := a - rotl c 4
  let b := b ^^^ a; let b := b - rotl a 14
  let c := c ^^^ b; c - rotl b 24

/-- The shift table S of MD5 (45_md5.md R194). -/
def md5S : List Nat :=
  [7, 12, 17, 22, 7, 12, 17, 22, 7, 12, 17, 22, 7, 12, 17, 22] ++
  [5, 9, 14, 20, 5, 9, 14, 20, 5, 9, 14, 20, 5, 9, 14, 20] ++
  [4, 11, 16, 23, 4, 11, 16, 23, 4, 11, 16, 23, 4, 11, 16, 23] ++
  [6, 10, 15, 21, 6, 10, 15, 21, 6, 10, 15, 21, 6, 10, 15, 21]

/-- The constant table K of MD5 (45_md5.md R195). -/
def md5Constants : List Word :=
  [0xD76AA478#32, 0xE8C7B756#32, 0x242070DB#32, 0xC1BDCEEE#32, 0xF57C0FAF#32, 0x4787C62A#32, 0xA8304613#32, 0xFD469501#32,
   0x698098D8#32, 0x8B44F7AF#32, 0xFFFF5BB1#32, 0x895CD7BE#32, 0x6B901122#32, 0xFD987193#32, 0xA679438E#32, 0x49B40821#32] ++
  [0xF61E2562#32, 0xC040B340#32, 0x265E5A51#32, 0xE9B6C7AA#32, 0xD62F105D#32, 0x02441453#32, 0xD8A1E681#32, 0xE7D3FBC8#32,
   0x21E1CDE6#32, 0xC33707D6#32, 0xF4D50D87#32, 0x455A14ED#32, 0xA9E3E905#32, 0xFCEFA3F8#32, 0x676F02D9#32, 0x8D2A4C8A#32] ++
  [0xFFFA3942#32, 0x8771F681#32, 0x6D9D6122#32, 0xFDE5380C#32, 0xA4BEEA44#32, 0x4BDECFA9#32, 0xF6BB4B60#32, 0xBEBFBC70#32,
   0x289B7EC6#32, 0xEAA127FA#32, 0xD4EF3085#32, 0x04881D05#32, 0xD9D4D039#32, 0xE6DB99E5#32, 0x1FA27CF8#32, 0xC4AC5665#32] ++
  [0xF4292244#32, 0x432AFF97#32, 0xAB9423A7#32, 0xFC93A039#32, 0x655B59C3#32, 0x8F0CCC92#32, 0xFFEFF47D#32, 0x85845DD1#32,
   0x6FA87E4F#32, 0xFE2CE6E0#32, 0xA3014314#32, 0x4E0811A1#32, 0xF7537E82#32, 0xBD3AF235#32, 0x2AD7D2BB#32, 0xEB86D391#32]

/-- F and g of MD5 round `i` (45_md5.md R196). -/
def md5FG (i : Nat) (b c d : Word) : Word × Nat :=
  if i < 16 then ((b &&& c) ||| (~~~b &&& d), i)
  else if i < 32 then ((d &&& b) ||| (~~~d &&& c), (5 * i + 1) % 16)
  else if i < 48 then (b ^^^ c ^^^ d, (3 * i + 5) % 16)
  else (c ^^^ (b ||| ~~~d), (7 * i) % 16)

/-- The padded message of MD5 (45_md5.md R190): 0x80, the fewest zero bytes that bring the length to 56 mod 64, the bit length
mod 2^32 least significant byte first, and four zero bytes. -/
def padded (msg : List Byte) : List Byte :=
  let zeros := (List.range 64).findIdx fun z => (msg.length + 1 + z) % 64 = 56
  msg ++ 0x80#8 :: List.replicate zeros 0#8 ++
    (List.range 4).map (fun k => (BitVec.ofNat 32 (8 * msg.length)).extractLsb' (8 * k) 8) ++ [0, 0, 0, 0]

/-- Message word `k` of block `blk` of a padded message (45_md5.md R197). -/
def blockWord (pad : List Byte) (blk k : Nat) : Word :=
  let at' := fun j => pad.getD (64 * blk + 4 * k + j) 0
  word32 (at' 0) (at' 1) (at' 2) (at' 3)

/-- Round `i` of `compress` on the variables A, B, C, D (45_md5.md R197). -/
def roundSteps (m : Nat → Word) (v : Word × Word × Word × Word) (i : Nat) : Word × Word × Word × Word :=
  let (a, b, c, d) := v
  let (f, g) := md5FG i b c d
  (d, b + rotl (f + a + md5Constants.getD i 0 + m g) (md5S.getD i 0), b, c)

/-- `compress` of one block into the running state (45_md5.md R197). -/
def compressSteps (pad : List Byte) (h : Digest) (blk : Nat) : Digest :=
  let (a, b, c, d) := (List.range 64).foldl (roundSteps (blockWord pad blk)) (h.w0, h.w1, h.w2, h.w3)
  ⟨h.w0 + a, h.w1 + b, h.w2 + c, h.w3 + d⟩

end Sys2Proof.Claims

open Sys2Proof Sys2Proof.Machine Sys2Proof.Claims

/-! ## Encoding -/

/-- Decode and encode agree: the packet of a well-formed instruction, taken while BUSY is as the instruction needs it, decodes
to that instruction with every operand at every value. -/
def Obligations.DecodeEncodeAgree : Prop :=
  ∀ (i : Instr) (busy : Bool), wellFormed i = true → occursWhen busy i = true → decode busy (encode i) = .ok i

/-- The other direction for format BUS: a packet of one or five bytes that decodes is the packet of what it decodes to, so no
descriptor or data bit is dropped (30_encoding.md R71). -/
def Obligations.EncodeDecodeAgreeOnBus : Prop :=
  ∀ (busy : Bool) (packet : List Byte) (i : Instr), packet.length ≠ 4 → decode busy packet = .ok i → encode i = packet

/-- What the decoder answers is a transaction that can occur in the state it was decoded in. -/
def Obligations.DecodedIsWellFormed : Prop :=
  ∀ (busy : Bool) (packet : List Byte) (i : Instr),
    decode busy packet = .ok i → wellFormed i = true ∧ occursWhen busy i = true

/-- R74: a value written to CTRL is the command OP = n exactly when it matches under the mask 0xF1, whatever its ignored
bits; with START = 0 it is WR.CTRL. -/
def Obligations.CommandMatchAndMask : Prop :=
  ∀ (busy : Bool) (v : Word),
    (∀ n : BitVec 4, (v &&& 0xF1#32 = (n.setWidth 32 <<< 4) ||| 1#32) ↔
      decode busy (leBytes v) = .ok (commandOf n (v.getLsbD 1))) ∧
    (v.getLsbD 0 = false ↔ decode busy (leBytes v) = .ok (.wrCtrl v))

/-- A few words written out from the tables of R71, R72 and R76. -/
def Obligations.SpecWordsDecode : Prop :=
  decode false [0x51, 0x00, 0x00, 0x00] = .ok (.fnv1a false) ∧
  decode false [0x83, 0x00, 0x00, 0x00] = .ok (.md5 true) ∧
  decode false [0x11, 0xFF, 0xFF, 0xFF] = .ok (.pearson false) ∧
  decode true [0xF1, 0x00, 0x00, 0x00] = .ok (.reservedOpF false) ∧
  decode false [0x48, 0x00, 0x10, 0x00, 0x00] = .ok (.wrSrc 0x00001000) ∧
  decode false [0x40, 0x02, 0x00, 0x00, 0x00] = .ok (.wrCtrl 0x00000002) ∧
  decode false [0x40, 0x51, 0x00, 0x00, 0x00] = .ok (.startAccept 0x00000051) ∧
  decode true [0x40, 0x13, 0x00, 0x00, 0x00] = .ok (.startDrop 0x00000013) ∧
  decode false [0x04] = .ok .rdStatus ∧
  decode false [0x20] = .ok .rdResult0 ∧
  decode false [0x30] = .ok .rdRes30 ∧
  decode false [0x60, 0x05, 0x00, 0x00, 0x00] = .ok (.wrRoResult0 5)

/-! ## The step and the admission of host accesses -/

/-- A step runs the decoded instruction (00_scope.md R18, 40_register_access.md R90): when the first event is a packet that
decodes to `i`, the step is `exec i` on the state without that event. The inbox and the packet are the model's choice (log 1,
4). -/
def Obligations.StepRunsDecodedInstruction : Prop :=
  ∀ (s : State) (packet : List Byte) (rest : List Event) (i : Instr),
    s.inbox = .txn packet :: rest → decode s.regs.status.busy packet = .ok i →
    step s = exec i { s with inbox := rest }

/-- R90: a 32-bit access at a multiple of 4 in the block is the BUS transaction of that slot, in that direction. -/
def Obligations.AdmittedAccessIsTransaction : Prop :=
  ∀ (s : State) (n : BitVec 4) (data : Word) (rest : List Event),
    (s.inbox = .access false (s.params.hcBase + 4 * n.toNat) 32 data :: rest →
      step s = exec (decodeRead (slotAt n)) { s with inbox := rest }) ∧
    (s.inbox = .access true (s.params.hcBase + 4 * n.toNat) 32 data :: rest →
      step s = exec (decodeWrite s.regs.status.busy data (slotAt n)) { s with inbox := rest })

/-- R90: any other access that touches the block records BUS_ACCESS and changes neither the register block nor anything the
engine holds; what such a read returns is left open (log 17). That an access of width 0 counts as one of the byte at its
address, and that one over the edge of the block is an access to it, is the model's choice (log 19). -/
def Obligations.OtherBlockAccessIsBusAccess : Prop :=
  ∀ (s : State) (write : Bool) (addr width : Nat) (data : Word) (rest : List Event),
    s.inbox = .access write addr width data :: rest →
    addr < s.params.hcBase + 64 → s.params.hcBase < addr + max 1 ((width + 7) / 8) →
    ¬ (width = 32 ∧ s.params.hcBase ≤ addr ∧ (addr - s.params.hcBase) % 4 = 0) →
    ∃ t, step s = .next t ∧ t.faults = ⟨true, s.faults.footprintRace⟩ ∧ t.regs = s.regs ∧ t.latched = s.latched ∧
      t.work = s.work ∧ t.mem = s.mem ∧ t.params = s.params ∧ t.raced = s.raced ∧ t.inbox = rest ∧
      (write = true → t.readData = s.readData)

/-! ## CTRL and STATUS -/

/-- R91: WR.CTRL stores IE = v[1] and OP = v[7:4] and changes nothing else, also while BUSY = 1. -/
def Obligations.WrCtrlStoresIeAndOp : Prop :=
  ∀ (s : State) (v : Word), v.getLsbD 0 = false →
    Transacts (.wrCtrl v) (0x40 :: leBytes v) s
      { s with regs := { s.regs with ctrl := ⟨v.getLsbD 1, v.extractLsb' 4 4⟩ } }

/-- R92: an accepted START stores IE and OP, latches the operands, sets BUSY, clears DONE, ERR, ERRCODE, L3PATH and ERRADDR,
and leaves BUSYERR, RESULT0..3 and everything else. -/
def Obligations.StartAcceptLatchesOperands : Prop :=
  ∀ (s : State) (v : Word), v.getLsbD 0 = true → s.regs.status.busy = false →
    Transacts (.startAccept v) (0x40 :: leBytes v) s
      { s with
        regs := { s.regs with
          ctrl := ⟨v.getLsbD 1, v.extractLsb' 4 4⟩
          status := ⟨true, false, false, s.regs.status.busyErr, 0, 0⟩
          errAddr := 0 }
        latched := ⟨v.extractLsb' 4 4, s.regs.src, s.regs.len, s.regs.seed, s.regs.tbl⟩
        raced := false }

/-- R93: a START written while BUSY = 1 sets BUSYERR and changes nothing else, IE and OP included. -/
def Obligations.StartDropSetsBusyErr : Prop :=
  ∀ (s : State) (v : Word), v.getLsbD 0 = true → s.regs.status.busy = true →
    Transacts (.startDrop v) (0x40 :: leBytes v) s
      { s with regs := { s.regs with status := { s.regs.status with busyErr := true } } }

/-- Every command row is the CTRL write of any value with its OP and IE: accepted as START.ACCEPT while BUSY = 0, dropped as
START.DROP while BUSY = 1, so a busy core loses all of it (R70, R92, R93, R226). -/
def Obligations.CommandIsCtrlWrite : Prop :=
  ∀ (s : State) (v : Word), v.getLsbD 0 = true →
    (s.regs.status.busy = false → exec (decodeCommand v) s = exec (.startAccept v) s) ∧
    (s.regs.status.busy = true → exec (decodeCommand v) s =
      .next { s with regs := { s.regs with status := { s.regs.status with busyErr := true } } })

/-- R94: RD.CTRL returns OP in bits 7:4 and IE in bit 1, every other bit 0, and changes nothing in the core. -/
def Obligations.RdCtrlReturnsOpAndIe : Prop :=
  ∀ s : State, ∃ x : Word,
    Transacts .rdCtrl [0x00] s { s with readData := x } ∧
    x.extractLsb' 4 4 = s.regs.ctrl.op ∧ x.getLsbD 1 = s.regs.ctrl.ie ∧
    ∀ k, k ≠ 1 → ¬ (4 ≤ k ∧ k < 8) → x.getLsbD k = false

/-- R95: WR.STATUS clears DONE, ERR and BUSYERR where a 1 is written and leaves them where a 0 is; BUSY, ERRCODE, L3PATH and
everything else ignore the write. -/
def Obligations.WrStatusWriteOneToClear : Prop :=
  ∀ (s : State) (v : Word),
    Transacts (.wrStatus v) (0x44 :: leBytes v) s
      { s with regs := { s.regs with status := { s.regs.status with
          done := if v.getLsbD 1 then false else s.regs.status.done
          err := if v.getLsbD 2 then false else s.regs.status.err
          busyErr := if v.getLsbD 3 then false else s.regs.status.busyErr } } }

/-- R96: RD.STATUS returns the six fields at their places, every other bit 0, and clears nothing. -/
def Obligations.RdStatusReturnsFields : Prop :=
  ∀ s : State, ∃ x : Word,
    Transacts .rdStatus [0x04] s { s with readData := x } ∧
    x.getLsbD 0 = s.regs.status.busy ∧ x.getLsbD 1 = s.regs.status.done ∧ x.getLsbD 2 = s.regs.status.err ∧
    x.getLsbD 3 = s.regs.status.busyErr ∧ x.extractLsb' 4 4 = s.regs.status.errCode ∧
    x.extractLsb' 8 2 = s.regs.status.l3path ∧ ∀ k, 10 ≤ k → x.getLsbD k = false

/-! ## Operand, address and result registers, reserved slots -/

/-- R97 to R100: each operand register takes the value written; nothing else changes, the latched operands included. SEED is read
by LOOKUP3 only and TBL by PEARSON and CRC32T only: no other operation's footprint or digest depends on what was latched from
it. -/
def Obligations.WrOperandRegisters : Prop :=
  ∀ (s : State) (v : Word),
    Transacts (.wrSrc v) (0x48 :: leBytes v) s { s with regs := { s.regs with src := v } } ∧
    Transacts (.wrLen v) (0x4C :: leBytes v) s { s with regs := { s.regs with len := v } } ∧
    Transacts (.wrSeed v) (0x50 :: leBytes v) s { s with regs := { s.regs with seed := v } } ∧
    Transacts (.wrTbl v) (0x54 :: leBytes v) s { s with regs := { s.regs with tbl := v } } ∧
    (∀ op, op ≠ .lookup3 → footprint op { s.latched with seed := v } = footprint op s.latched ∧
      ({ s with latched := { s.latched with seed := v } } : State).opDigest op = s.opDigest op) ∧
    (∀ op, op ≠ .pearson → op ≠ .crc32t → footprint op { s.latched with tbl := v } = footprint op s.latched ∧
      ({ s with latched := { s.latched with tbl := v } } : State).opDigest op = s.opDigest op)

/-- R101 to R104: a read of an operand register returns the last value written, not the latched one, and changes nothing. -/
def Obligations.RdOperandRegisters : Prop :=
  ∀ s : State,
    Transacts .rdSrc [0x08] s { s with readData := s.regs.src } ∧
    Transacts .rdLen [0x0C] s { s with readData := s.regs.len } ∧
    Transacts .rdSeed [0x10] s { s with readData := s.regs.seed } ∧
    Transacts .rdTbl [0x14] s { s with readData := s.regs.tbl }

/-- R105 to R109: reads of ERRADDR and RESULT0..3 return the register and change nothing. -/
def Obligations.RdErrAddrAndResults : Prop :=
  ∀ s : State,
    Transacts .rdErrAddr [0x18] s { s with readData := s.regs.errAddr } ∧
    Transacts .rdResult0 [0x20] s { s with readData := s.regs.result0 } ∧
    Transacts .rdResult1 [0x24] s { s with readData := s.regs.result1 } ∧
    Transacts .rdResult2 [0x28] s { s with readData := s.regs.result2 } ∧
    Transacts .rdResult3 [0x2C] s { s with readData := s.regs.result3 }

/-- R110: a write to ERRADDR or to a RESULT register changes nothing. -/
def Obligations.WrReadOnlyIgnored : Prop :=
  ∀ (s : State) (v : Word),
    Transacts (.wrRoErrAddr v) (0x58 :: leBytes v) s s ∧
    Transacts (.wrRoResult0 v) (0x60 :: leBytes v) s s ∧
    Transacts (.wrRoResult1 v) (0x64 :: leBytes v) s s ∧
    Transacts (.wrRoResult2 v) (0x68 :: leBytes v) s s ∧
    Transacts (.wrRoResult3 v) (0x6C :: leBytes v) s s

/-- R111: a read of a reserved slot returns 0, a write to one changes nothing. -/
def Obligations.ReservedSlotsReadZeroIgnoreWrites : Prop :=
  ∀ (s : State) (v : Word),
    Transacts .rdRes1C [0x1C] s { s with readData := 0 } ∧ Transacts (.wrRes1C v) (0x5C :: leBytes v) s s ∧
    Transacts .rdRes30 [0x30] s { s with readData := 0 } ∧ Transacts (.wrRes30 v) (0x70 :: leBytes v) s s ∧
    Transacts .rdRes34 [0x34] s { s with readData := 0 } ∧ Transacts (.wrRes34 v) (0x74 :: leBytes v) s s ∧
    Transacts .rdRes38 [0x38] s { s with readData := 0 } ∧ Transacts (.wrRes38 v) (0x78 :: leBytes v) s s ∧
    Transacts .rdRes3C [0x3C] s { s with readData := 0 } ∧ Transacts (.wrRes3C v) (0x7C :: leBytes v) s s

/-! ## The operations: START, completion, digest

In each, the latched operands after the completion are the model's choice (log 26). -/

/-- PEARSON from an idle core (R120, R122): byte i of RESULT0 is the table run over the message from index `PEARSON_J_START`,
seeded at `Msg[0] + i` mod 256; the frame is `SuccessFrom`. -/
def Obligations.PearsonDigest : Prop :=
  ∀ (s : State) (ie : Bool), s.regs.status.busy = false → EngineMoves s → s.regs.len ≠ 0 →
    Plain s.params s.regs.src.toNat s.regs.len.toNat → Plain s.params s.regs.tbl.toNat 256 →
    let msg := message s.mem s.regs.src s.regs.len
    let tab : Byte → Byte := fun k => memRead s.mem (s.regs.tbl.toNat + k.toNat)
    let byte : Byte → Byte := fun i =>
      (msg.drop s.params.pearsonJStart.val).foldl (fun h b => tab (h ^^^ b)) (tab (msg.headD 0 + i))
    ∃ u, RunsTo (.pearson ie) s u ∧ SuccessFrom s u ie 1 0 ⟨word32 (byte 0) (byte 1) (byte 2) (byte 3), 0, 0, 0⟩

/-- CRC32T from an idle core (R131, R132): the remainder 0x00FFFFFF run over the message through the little-endian table. -/
def Obligations.Crc32tDigest : Prop :=
  ∀ (s : State) (ie : Bool), s.regs.status.busy = false → EngineMoves s →
    Plain s.params s.regs.src.toNat s.regs.len.toNat → Plain s.params s.regs.tbl.toNat 1024 →
    let tab : Byte → Word := fun k =>
      let a := s.regs.tbl.toNat + 4 * k.toNat
      word32 (memRead s.mem a) (memRead s.mem (a + 1)) (memRead s.mem (a + 2)) (memRead s.mem (a + 3))
    ∃ u, RunsTo (.crc32t ie) s u ∧ SuccessFrom s u ie 2 0
      ⟨(message s.mem s.regs.src s.regs.len).foldl
        (fun r b => (r >>> 8) ^^^ tab ((r &&& 0xFF#32).setWidth 8 ^^^ b)) 0x00FFFFFF#32, 0, 0, 0⟩

/-- CRC32B from an idle core (R130, R133): the same with the entries computed from the polynomial, in the order of test and
shift that log 22 names; TBL is not in the footprint. -/
def Obligations.Crc32bDigest : Prop :=
  ∀ (s : State) (ie : Bool), s.regs.status.busy = false → EngineMoves s →
    Plain s.params s.regs.src.toNat s.regs.len.toNat →
    ∃ u, RunsTo (.crc32b ie) s u ∧ SuccessFrom s u ie 3 0
      ⟨(message s.mem s.regs.src s.regs.len).foldl
        (fun r b => (r >>> 8) ^^^ crcEntry ((r &&& 0xFF#32).setWidth 8 ^^^ b)) 0x00FFFFFF#32, 0, 0, 0⟩

/-- SDBM from an idle core (R145), with the right shift by 16 of the spec. -/
def Obligations.SdbmDigest : Prop :=
  ∀ (s : State) (ie : Bool), s.regs.status.busy = false → EngineMoves s →
    Plain s.params s.regs.src.toNat s.regs.len.toNat →
    ∃ u, RunsTo (.sdbm ie) s u ∧ SuccessFrom s u ie 4 0
      ⟨(message s.mem s.regs.src s.regs.len).foldl
        (fun h b => b.setWidth 32 + (h <<< 6) + (h >>> 16) - h) 0#32, 0, 0, 0⟩

/-- FNV1A from an idle core (R146). -/
def Obligations.Fnv1aDigest : Prop :=
  ∀ (s : State) (ie : Bool), s.regs.status.busy = false → EngineMoves s →
    Plain s.params s.regs.src.toNat s.regs.len.toNat →
    ∃ u, RunsTo (.fnv1a ie) s u ∧ SuccessFrom s u ie 5 0
      ⟨(message s.mem s.regs.src s.regs.len).foldl
        (fun h b => (h ^^^ b.setWidth 32) * 0x01000193#32) 0x811C9DC5#32, 0, 0, 0⟩

/-- OAT from an idle core (R147): the byte steps, then the finalization, which also runs for the empty message. -/
def Obligations.OatDigest : Prop :=
  ∀ (s : State) (ie : Bool), s.regs.status.busy = false → EngineMoves s →
    Plain s.params s.regs.src.toNat s.regs.len.toNat →
    let byteStep : Word → Byte → Word := fun h b =>
      ((h + b.setWidth 32) + ((h + b.setWidth 32) <<< 10)) ^^^ (((h + b.setWidth 32) + ((h + b.setWidth 32) <<< 10)) >>> 6)
    let h0 := (message s.mem s.regs.src s.regs.len).foldl byteStep 0#32
    let h1 := h0 + (h0 <<< 3)
    let h2 := h1 ^^^ (h1 >>> 11)
    ∃ u, RunsTo (.oat ie) s u ∧ SuccessFrom s u ie 6 0 ⟨h2 + (h2 <<< 15), 0, 0, 0⟩

/-- LOOKUP3 from an idle core (R160 to R163, R165, R167): (len - 1) / 12 rounds of `mix` over whole blocks, then the tail of 1 to
12 bytes and `final`, the words in the order log 22 names; for len = 0 the start value as it is. L3PATH tells the alignment of
the source. The sentinel byte at src + len must be readable. -/
def Obligations.Lookup3Digest : Prop :=
  ∀ (s : State) (ie : Bool), s.regs.status.busy = false → EngineMoves s →
    Plain s.params s.regs.src.toNat (s.regs.len.toNat + 1) →
    let byte : Nat → Byte := fun j => if j < s.regs.len.toNat then memRead s.mem (s.regs.src.toNat + j) else 0
    let word : Nat → Word := fun p => word32 (byte p) (byte (p + 1)) (byte (p + 2)) (byte (p + 3))
    let start : Word := 0xDEADBEEF#32 + s.regs.len + s.regs.seed
    let rounds := (s.regs.len.toNat - 1) / 12
    let (a, b, c) := (List.range rounds).foldl
      (fun (w : Word × Word × Word) k =>
        mixSteps (w.1 + word (12 * k)) (w.2.1 + word (12 * k + 4)) (w.2.2 + word (12 * k + 8)))
      (start, start, start)
    let p := 12 * rounds
    let digest := if s.regs.len = 0 then start
      else finalSteps (a + word p) (b + word (p + 4)) (c + word (p + 8))
    let path : BitVec 2 :=
      if s.regs.src.toNat % 4 = 0 then 3 else if s.regs.src.toNat % 4 = 2 then 2 else 1
    ∃ u, RunsTo (.lookup3 ie) s u ∧ SuccessFrom s u ie 7 path ⟨digest, 0, 0, 0⟩

/-- MD5 from an idle core whose padding buffer has room (R190, R191, R194 to R198): `compress` over the 64-byte blocks of the
padded message in order, the four state words in register order. The byte 0x80 and the table K are those of log 22. -/
def Obligations.Md5Digest : Prop :=
  ∀ (s : State) (ie : Bool), s.regs.status.busy = false → EngineMoves s →
    (∀ n, s.params.md5PadBlocks = some n → (s.regs.len.toNat + 8) / 64 ≤ n) →
    Plain s.params s.regs.src.toNat s.regs.len.toNat →
    let pad := padded (message s.mem s.regs.src s.regs.len)
    ∃ u, RunsTo (.md5 ie) s u ∧ SuccessFrom s u ie 8 0
      ((List.range (pad.length / 64)).foldl (compressSteps pad)
        ⟨0x67452301#32, 0xEFCDAB89#32, 0x98BADCFE#32, 0x10325476#32⟩)

/-! ## Errors -/

/-- R224: each command with a reserved OP is accepted by an idle core and completes with ILLEGAL_OP, whatever is readable. The
latched operands after it are the model's choice (log 26). -/
def Obligations.ReservedOpIsIllegalOp : Prop :=
  ∀ (s : State) (ie : Bool), s.regs.status.busy = false → EngineMoves s →
    ∀ p ∈ [(Instr.reservedOp0 ie, (0x0 : BitVec 4)), (.reservedOp9 ie, 0x9), (.reservedOpA ie, 0xA), (.reservedOpB ie, 0xB),
      (.reservedOpC ie, 0xC), (.reservedOpD ie, 0xD), (.reservedOpE ie, 0xE), (.reservedOpF ie, 0xF)],
      ∃ u, RunsTo p.1 s u ∧ ErrorFrom s u ie p.2 1 0

/-- R121: PEARSON with LEN = 0 completes with PRECOND, whether or not the table is readable. The latched operands after it are
the model's choice (log 26). -/
def Obligations.PearsonLengthZeroIsPrecond : Prop :=
  ∀ (s : State) (ie : Bool), s.regs.status.busy = false → EngineMoves s → s.regs.len = 0 →
    ∃ u, RunsTo (.pearson ie) s u ∧ ErrorFrom s u ie 1 2 0

/-- R191: MD5 whose padded message is larger than the buffer completes with CAPACITY, before any read. -/
def Obligations.Md5OverCapacity : Prop :=
  ∀ (s : State) (ie : Bool) (n : Nat), s.regs.status.busy = false → EngineMoves s →
    s.params.md5PadBlocks = some n → 64 * (n + 1) < 64 * ((s.regs.len.toNat + 8) / 64 + 1) →
    ∃ u, RunsTo (.md5 ie) s u ∧ ErrorFrom s u ie 8 4 0

/-- R53 and R54: an operation in flight that the first three checks pass, and whose footprint has an unreadable address, ends
with BUS_ERROR and the first such address in check order, mod 2^32, in ERRADDR; the digest is not written, and all but the
working registers (R34) is as it was, the latched operands by the model's choice (log 26). The footprints of the eight operations
are written out. -/
def Obligations.BusErrorAtFirstUnreadable : Prop :=
  ∀ (s : State) (op : Op) (a : Nat) (before after : List Nat),
    s.regs.status.busy = true → EngineMoves s → opOfBits s.latched.op = some op →
    ¬ (op = .pearson ∧ s.latched.len = 0) →
    ¬ (op = .md5 ∧ ∃ n, s.params.md5PadBlocks = some n ∧ n < (s.latched.len.toNat + 8) / 64) →
    (addresses s.latched.src.toNat (if op = .lookup3 then s.latched.len.toNat + 1 else s.latched.len.toNat) ++
      (if op = .pearson then addresses s.latched.tbl.toNat 256
        else if op = .crc32t then addresses s.latched.tbl.toNat 1024 else [])) = before ++ a :: after →
    (∀ x ∈ before, memReadable s.params x = true) → memReadable s.params a = false →
    ∃ u, step s = .next u ∧
      u.regs = { s.regs with
        status := { s.regs.status with busy := false, done := true, err := true, errCode := 3 }
        errAddr := BitVec.ofNat 32 (a % 4294967296) } ∧
      u.latched = s.latched ∧ u.mem = s.mem ∧ u.params = s.params ∧ u.faults = s.faults ∧
      u.readData = s.readData ∧ u.inbox = s.inbox.tail

/-- R52: an operation that passes every check and whose footprint touches a region whose reads have side effects, or else one
whose value changes without a host store, is refused at its completion. Log 12 says how the model declares such regions. -/
def Obligations.ForbiddenRegionIsRefused : Prop :=
  ∀ (s : State) (op : Op), s.regs.status.busy = true → EngineMoves s → opOfBits s.latched.op = some op →
    ¬ (op = .pearson ∧ s.latched.len = 0) →
    ¬ (op = .md5 ∧ ∃ n, s.params.md5PadBlocks = some n ∧ n < (s.latched.len.toNat + 8) / 64) →
    (∀ a ∈ footprint op s.latched, memReadable s.params a = true) →
    ((∃ a ∈ footprint op s.latched, readHasSideEffect s.params a = true) → step s = .refused .sideEffectRegion) ∧
    ((∀ a ∈ footprint op s.latched, readHasSideEffect s.params a = false) →
      (∃ a ∈ footprint op s.latched, changesAlone s.params a = true) → step s = .refused .volatileRegion)

/-- R225: which code a completion reports. From a state that meets the invariant, the engine's step with an operation in flight
leaves the code of the first check that applies, and 0 with ERR clear when none does. -/
def Obligations.CheckOrderDecidesErrorCode : Prop :=
  ∀ s u : State, Inv s → s.regs.status.busy = true → EngineMoves s → step s = .next u →
    let op := opOfBits s.latched.op
    let precond := op = some .pearson ∧ s.latched.len = 0
    let capacity := op = some .md5 ∧ ∃ n, s.params.md5PadBlocks = some n ∧ n < (s.latched.len.toNat + 8) / 64
    (op = none → u.regs.status.errCode = 1) ∧
    (precond → u.regs.status.errCode = 2) ∧
    (capacity → u.regs.status.errCode = 4) ∧
    (∀ o, op = some o → ¬ precond → ¬ capacity →
      ((∃ a ∈ footprint o s.latched, memReadable s.params a = false) → u.regs.status.errCode = 3) ∧
      ((∀ a ∈ footprint o s.latched, memReadable s.params a = true) → u.regs.status.errCode = 0)) ∧
    (u.regs.status.err = true ↔ u.regs.status.errCode ≠ 0) ∧
    u.regs.status.done = true ∧ u.regs.status.busy = false

/-- R227: completions are all-or-nothing. An error leaves RESULT0..3. A success leaves ERRADDR, and when no host store raced it
RESULT0..3 hold the whole digest of the latched operands. -/
def Obligations.CompletionIsAllOrNothing : Prop :=
  ∀ s u : State, Inv s → s.regs.status.busy = true → EngineMoves s → step s = .next u →
    (u.regs.status.err = true → u.regs.result0 = s.regs.result0 ∧ u.regs.result1 = s.regs.result1 ∧
      u.regs.result2 = s.regs.result2 ∧ u.regs.result3 = s.regs.result3) ∧
    (u.regs.status.err = false → u.regs.errAddr = s.regs.errAddr ∧ u.regs.status.errCode = 0) ∧
    (u.regs.status.err = false → s.raced = false → ∃ op, opOfBits s.latched.op = some op ∧
      (⟨u.regs.result0, u.regs.result1, u.regs.result2, u.regs.result3⟩ : Digest) = s.opDigest op)

/-! ## Reset -/

/-- R250, R252: right after reset every register of the block reads 0, the engine is IDLE and IRQ is low, whatever the open
parameters are. -/
def Obligations.ResetBlockReadsZero : Prop :=
  ∀ (p : Params) (slot : Slot),
    (State.resetWith p).regs.readSlot slot = 0 ∧ (State.resetWith p).regs.status.busy = false ∧
    (State.resetWith p).irq = false ∧ (State.resetWith p).params = p

/-- R250: the reset input zeroes the block and abandons the operation in flight; system memory and the recorded model faults
stay. From every state, in flight or not, it answers a next state. (`inbox` and `params` are the model's own, log 1, 10.) -/
def Obligations.ResetEventClearsBlock : Prop :=
  ∀ (s : State) (rest : List Event), s.inbox = .reset :: rest →
    ∃ t, step s = .next t ∧ (∀ slot, t.regs.readSlot slot = 0) ∧ t.regs.status.busy = false ∧ t.irq = false ∧
      t.mem = s.mem ∧ t.faults = s.faults ∧ t.params = s.params ∧ t.inbox = rest

/-! ## Invariants and whole-machine rules -/

/-- The machine right after reset meets the invariant, for every value of the open parameters. Its clauses on the canonical form
of memory (log 7), on lop (log 26) and on `raced` (log 14) are about the model's choices. -/
def Obligations.InvariantAtReset : Prop := Inv State.reset ∧ ∀ p : Params, Inv (State.resetWith p)

/-- Every step keeps the invariant: memory canonical, BUSY excludes an outcome (R23), ERRCODE a defined code (R223), ERR only
with a code, L3PATH only after LOOKUP3 (R163), ERRADDR only with BUS_ERROR (R105), a race only in flight and on record. Three
clauses rest on the model's choices, not on a rule: the canonical form of memory (log 7); that lop still holds LOOKUP3's OP while
L3PATH is not 0, which 93_implementation_defined.md U18 leaves open after a completion (log 26); and `raced` (log 14). -/
def Obligations.StepKeepsInvariant : Prop :=
  ∀ s t : State, Inv s → step s = .next t → Inv t

/-- R50: the core never writes system memory. A step changes the byte at an address only when it takes a host store to that
address, and then to the byte stored. The canonical form in the premise is the model's choice (log 7). -/
def Obligations.OnlyHostStoresChangeMemory : Prop :=
  ∀ (s t : State) (x : Nat), Memory.wf s.mem → step s = .next t →
    (∀ b rest, s.inbox = .store x b :: rest → memRead t.mem x = b) ∧
    ((∀ b rest, s.inbox ≠ .store x b :: rest) → memRead t.mem x = memRead s.mem x)

/-- R255: a recorded model fault is never cleared, not by any number of steps with resets among them; the parameters of the
machine never change (R7). -/
def Obligations.ModelFaultsNeverCleared : Prop :=
  ∀ s t : State, Reaches s t →
    (s.faults.busAccess = true → t.faults.busAccess = true) ∧
    (s.faults.footprintRace = true → t.faults.footprintRace = true) ∧ t.params = s.params

/-- R220, R33: BUSY goes from 1 to 0 only by the engine's turn or a reset, and from 0 to 1 only by a host transaction. -/
def Obligations.BusyChangesOnlyBy : Prop :=
  ∀ s t : State, step s = .next t →
    (s.regs.status.busy = true → t.regs.status.busy = false →
      s.inbox = [] ∨ ∃ rest, s.inbox = .engine :: rest ∨ s.inbox = .reset :: rest) ∧
    (s.regs.status.busy = false → t.regs.status.busy = true →
      ∃ i, wellFormed i = true ∧ (step s = exec i { s with inbox := s.inbox.tail }) ∧
        ((∃ v, i = .startAccept v) ∨ ∃ op ie, i = commandOf op ie))

/-- R29, R110, R227: RESULT0..3 change only by a completion, which is the engine's turn with an operation in flight, or by a
reset: no host transaction presets a digest. -/
def Obligations.ResultsChangeOnlyBy : Prop :=
  ∀ s t : State, step s = .next t →
    (t.regs.result0 ≠ s.regs.result0 ∨ t.regs.result1 ≠ s.regs.result1 ∨ t.regs.result2 ≠ s.regs.result2 ∨
      t.regs.result3 ≠ s.regs.result3) →
    (s.regs.status.busy = true ∧ EngineMoves s ∧ t.regs.status.done = true) ∨ ∃ rest, s.inbox = .reset :: rest

/-- R230: IRQ is the level IE and (DONE or ERR), in every state. A completion leaves it equal to IE, a WR.CTRL while DONE or ERR
is 1 leaves it equal to the IE written, so it rises at once, and a dropped START, which sets BUSYERR, leaves it as it was. -/
def Obligations.IrqLevelAndRise : Prop :=
  (∀ s : State, s.irq = (s.regs.ctrl.ie && (s.regs.status.done || s.regs.status.err))) ∧
  (∀ s u : State, s.regs.status.busy = true → EngineMoves s → step s = .next u → u.irq = s.regs.ctrl.ie) ∧
  (∀ (s : State) (v : Word), v.getLsbD 0 = false → (s.regs.status.done = true ∨ s.regs.status.err = true) →
    ∃ t, exec (.wrCtrl v) s = .next t ∧ t.irq = v.getLsbD 1) ∧
  (∀ (s : State) (v : Word), v.getLsbD 0 = true → s.regs.status.busy = true →
    ∃ t, exec (.startDrop v) s = .next t ∧ t.regs.status.busyErr = true ∧ t.irq = s.irq)

/-- R230: the level stays high until the host clears DONE and ERR, starts a new operation or writes IE = 0, or a reset comes;
and each of these does lower it. -/
def Obligations.IrqFallsOnlyBy : Prop :=
  (∀ s t : State, s.regs.ctrl.ie = true → (s.regs.status.done = true ∨ s.regs.status.err = true) → step s = .next t →
    t.irq = false →
    (∃ rest, s.inbox = .reset :: rest) ∨
    (∃ i, step s = exec i { s with inbox := s.inbox.tail } ∧
      ((∃ v, i = .wrStatus v ∧ (v.getLsbD 1 = true ∨ v.getLsbD 2 = true)) ∨ (∃ v, i = .wrCtrl v ∧ v.getLsbD 1 = false) ∨
        (∃ v, i = .startAccept v) ∨ ∃ op ie, i = commandOf op ie))) ∧
  (∀ (s : State) (v : Word), v.getLsbD 1 = true → v.getLsbD 2 = true →
    ∃ t, exec (.wrStatus v) s = .next t ∧ t.regs.ctrl = s.regs.ctrl ∧ t.irq = false) ∧
  (∀ (s : State) (v : Word), v.getLsbD 0 = false → v.getLsbD 1 = false →
    ∃ t, exec (.wrCtrl v) s = .next t ∧ t.regs.status = s.regs.status ∧ t.irq = false) ∧
  (∀ (s : State) (v : Word), v.getLsbD 0 = true → s.regs.status.busy = false →
    ∃ t, exec (.startAccept v) s = .next t ∧ t.regs.status.busy = true ∧ t.irq = false) ∧
  (∀ (s : State) (rest : List Event), s.inbox = .reset :: rest → ∃ t, step s = .next t ∧ t.irq = false)

/-- R258, R36: no host transaction while an operation is in flight affects it. After it the completion writes the same
RESULT0..3 and ERRADDR, and the same STATUS but for BUSYERR. -/
def Obligations.TransactionsDoNotAffectFlight : Prop :=
  ∀ (s t u : State) (i : Instr), Inv s → s.regs.status.busy = true → s.inbox = [] →
    exec i s = .next t → step s = .next u →
    ∃ w, step t = .next w ∧ w.regs.result0 = u.regs.result0 ∧ w.regs.result1 = u.regs.result1 ∧
      w.regs.result2 = u.regs.result2 ∧ w.regs.result3 = u.regs.result3 ∧ w.regs.errAddr = u.regs.errAddr ∧
      { w.regs.status with busyErr := false } = { u.regs.status with busyErr := false }

/-- R61, R255: a host store to the footprint of the operation in flight stores the byte and records FOOTPRINT_RACE, and the
operation completes as usual: where the engine's step answers a next state without the race it answers one with it, and the
other way round, with the same STATUS and ERRADDR and the fault on record. Nothing is said of the digest. Any other host store
below 2^32, to an idle core or outside that footprint, stores the byte and changes nothing else. (`raced` and the inbox are the
model's own, log 14, 1; that the footprint is the table of R53 whatever the checks will say is log 21.) -/
def Obligations.FootprintRaceRecordedAndCompletes : Prop :=
  ∀ (s : State) (a : Nat) (b : Byte) (rest : List Event), a < 4294967296 → s.inbox = .store a b :: rest →
    let inFlight := s.regs.status.busy = true ∧ ∃ op, opOfBits s.latched.op = some op ∧ a ∈ footprint op s.latched
    (inFlight → ∃ t, step s = .next t ∧ t.faults = ⟨s.faults.busAccess, true⟩ ∧ t.mem = memWrite s.mem a b ∧
      t.regs = s.regs ∧ t.latched = s.latched ∧ t.params = s.params ∧ t.inbox = rest ∧
      (EngineMoves t →
        let asUsual := fun u w : State =>
          u.regs.status = w.regs.status ∧ u.regs.errAddr = w.regs.errAddr ∧ u.faults = ⟨s.faults.busAccess, true⟩
        (∀ w, step { t with raced := false } = .next w → ∃ u, step t = .next u ∧ asUsual u w) ∧
        (∀ u, step t = .next u → ∃ w, step { t with raced := false } = .next w ∧ asUsual u w))) ∧
    (¬ inFlight → step s = .next { s with mem := memWrite s.mem a b, inbox := rest })

/-- R261, R220: bounded progress. However the inbox interleaves, one step more than it has events leaves the core IDLE. That an
empty inbox is the engine's turn is the model's choice (log 2). -/
def Obligations.IdleWhenInboxIsSpent : Prop :=
  ∀ s t : State, Host.Core.run Sys2Proof.core (s.inbox.length + 1) s = .next t →
    t.inbox = [] ∧ t.regs.status.busy = false

/-- R261, R78: a polling loop ends. With an operation in flight whose completion is not refused (R52), `HC.WAIT` reaches its
end with DONE = 1 in the name it read, whatever turns the engine is given. The driver run is the model's choice (log 24). -/
def Obligations.HcWaitTerminates : Prop :=
  ∀ (s : State) (names : List (Nat × Word)) (turns : List Bool) (name l : Nat), Inv s →
    s.regs.status.busy = true → (∀ r, s.complete ≠ .refused r) →
    ∃ k r v, driverSteps (hcWait name l) k ⟨s, 0, names, turns⟩ = .next r ∧ r.pc = 3 ∧
      r.core.regs.status.busy = false ∧ r.core.regs.status.done = true ∧
      nameValue r.names name = some v ∧ v.getLsbD 1 = true

/-- R220: when BUSY = 0 the engine has no step. That a turn given to it then changes nothing is the model's choice (log 15). -/
def Obligations.IdleEngineHasNoStep : Prop :=
  ∀ s : State, s.regs.status.busy = false → EngineMoves s → step s = .next { s with inbox := s.inbox.tail }

/-- R76, R78: `HC.START` and `HC.START.I` are the host write of the command word with IE = 0 and with IE = 1, and from an idle
core they start the operation, as the BUS transaction START.ACCEPT does. The driver run is the model's choice (log 24). -/
def Obligations.HcStartStartsOperation : Prop :=
  ∀ (s : State) (op : BitVec 4) (names : List (Nat × Word)) (turns : List Bool), s.regs.status.busy = false →
    (∃ t, exec (.startAccept (commandWord op false)) s = .next t ∧ t.regs.status.busy = true ∧
      t.latched.op = op ∧ t.regs.ctrl.ie = false ∧
      driverStep (hcStart op) ⟨s, 0, names, false :: turns⟩ = .next ⟨t, 1, names, turns⟩) ∧
    (∃ t, exec (.startAccept (commandWord op true)) s = .next t ∧ t.regs.status.busy = true ∧
      t.latched.op = op ∧ t.regs.ctrl.ie = true ∧
      driverStep (hcStartI op) ⟨s, 0, names, false :: turns⟩ = .next ⟨t, 1, names, turns⟩)

/-- R232: a START and a completion due at the same time may take effect in either order. Before the completion the START is
dropped: BUSYERR tells, the latched operands stay, and the completion then writes what it would have written (R221, R222) with
BUSYERR kept. After the completion the START is accepted: it latches the operand registers as they stand (R92) and leaves
RESULT0..3 as the completion wrote them. That a completion keeps the latched operands is the model's choice (log 26). -/
def Obligations.StartAndCompletionInEitherOrder : Prop :=
  ∀ (s t : State) (v : Word), v.getLsbD 0 = true → s.regs.status.busy = true → s.inbox = [] → step s = .next t →
    (∃ u, step { s with inbox := [.txn (0x40 :: leBytes v), .engine] } = .next u ∧
      u.regs = { s.regs with status := { s.regs.status with busyErr := true } } ∧ u.latched = s.latched ∧
      ∃ w, step u = .next w ∧ w.regs = { t.regs with status := { t.regs.status with busyErr := true } } ∧
        w.regs.status.busy = false ∧ w.latched = s.latched) ∧
    (∃ u, step { s with inbox := [.engine, .txn (0x40 :: leBytes v)] } = .next u ∧ u.regs = t.regs ∧
      ∃ w, step u = .next w ∧
        w.regs = { t.regs with
          ctrl := ⟨v.getLsbD 1, v.extractLsb' 4 4⟩
          status := ⟨true, false, false, t.regs.status.busyErr, 0, 0⟩
          errAddr := 0 } ∧
        w.latched = ⟨v.extractLsb' 4 4, s.regs.src, s.regs.len, s.regs.seed, s.regs.tbl⟩)

/-! ## Purity and equivalences -/

/-- R2: every unit is a pure function. Two operations in flight with the same latched operands and parameters, and memories
that agree on the footprint, complete with the same RESULT0..3 and ERRADDR and the same outcome in STATUS, whatever the
working registers and the rest of the two states hold. -/
def Obligations.DigestIsPure : Prop :=
  ∀ (s t u : State), Inv s → Inv t → s.regs.status.busy = true → t.regs.status.busy = true →
    s.raced = false → t.raced = false → s.latched = t.latched → s.params = t.params →
    (∀ op, opOfBits s.latched.op = some op → ∀ a ∈ footprint op s.latched, memRead s.mem a = memRead t.mem a) →
    EngineMoves s → EngineMoves t → step s = .next u →
    ∃ w, step t = .next w ∧ u.regs.status.err = w.regs.status.err ∧ u.regs.status.errCode = w.regs.status.errCode ∧
      u.regs.status.l3path = w.regs.status.l3path ∧ u.regs.errAddr = w.regs.errAddr ∧
      (u.regs.status.err = false → u.regs.result0 = w.regs.result0 ∧ u.regs.result1 = w.regs.result1 ∧
        u.regs.result2 = w.regs.result2 ∧ u.regs.result3 = w.regs.result3)

/-- R134, which the spec derives from R132 and R133: with the computed entry at entry k for every k, CRC32T and CRC32B give the
same digest for every message. -/
def Obligations.CrcModesAgree : Prop :=
  ∀ (s t : State), opOfBits s.latched.op = some .crc32t → opOfBits t.latched.op = some .crc32b →
    s.mem = t.mem → s.latched.src = t.latched.src → s.latched.len = t.latched.len →
    (∀ k : Byte, memRead32 s.mem (s.latched.tbl.toNat + 4 * k.toNat) = crcEntry k) →
    s.opDigest .crc32t = t.opDigest .crc32b

/-- R123: with the identity table, byte i of the Pearson digest is `(Msg[0] + i) mod 256` XORed with the message bytes from
`PEARSON_J_START` on. -/
def Obligations.PearsonIdentityTable : Prop :=
  ∀ s : State, (∀ k : Byte, memRead s.mem (s.latched.tbl.toNat + k.toNat) = k) → s.latched.len ≠ 0 →
    let msg := message s.mem s.latched.src s.latched.len
    let byte : Byte → Byte := fun i =>
      (msg.headD 0 + i) ^^^ (msg.drop s.params.pearsonJStart.val).foldl (fun x b => x ^^^ b) 0
    s.opDigest .pearson = ⟨word32 (byte 0) (byte 1) (byte 2) (byte 3), 0, 0, 0⟩

/-- R164, which the spec derives from R162 and R165: the three alignment paths give one digest. Two LOOKUP3 operations over the
same bytes, length and seed at any two source addresses have equal digests. -/
def Obligations.Lookup3PathsAgree : Prop :=
  ∀ s t : State, s.latched.len = t.latched.len → s.latched.seed = t.latched.seed →
    (∀ j < s.latched.len.toNat,
      memRead s.mem (s.latched.src.toNat + j) = memRead t.mem (t.latched.src.toNat + j)) →
    s.opDigest .lookup3 = t.opDigest .lookup3

/-- R166: the value of the sentinel byte changes neither the digest nor L3PATH: storing any byte at lsrc + llen, or above,
leaves both. -/
def Obligations.SentinelValueUnused : Prop :=
  ∀ (s : State) (a : Nat) (b : Byte), s.latched.src.toNat + s.latched.len.toNat ≤ a →
    ({ s with mem := memWrite s.mem a b } : State).opDigest .lookup3 = s.opDigest .lookup3 ∧
    ({ s with mem := memWrite s.mem a b } : State).opPath .lookup3 = s.opPath .lookup3

/-- R147: a message of zero bytes only gives OAT digest 0 for any length. -/
def Obligations.OatOfZeroBytes : Prop :=
  ∀ s : State, (∀ j < s.latched.len.toNat, memRead s.mem (s.latched.src.toNat + j) = 0) →
    s.opDigest .oat = ⟨0, 0, 0, 0⟩

/-- R190, its length as the spec derives it from the definition of `z`, its byte 0x80 from the passage the spec marks as general
knowledge (log 22): the padded message is a multiple of 64 bytes of the length the rule gives, `z` is the least count that
fits, byte `llen` is 0x80 with `z` zero bytes after it, and then comes the bit length mod 2^32 with four zero bytes after it. -/
def Obligations.Md5PaddedMessage : Prop :=
  ∀ (msg : Nat → Byte) (len : Nat),
    (md5Pad msg len).length = 64 * ((len + 8) / 64 + 1) ∧
    (len + 1 + md5ZeroCount len) % 64 = 56 ∧ (∀ z, (len + 1 + z) % 64 = 56 → md5ZeroCount len ≤ z) ∧
    (∀ j < len, (md5Pad msg len)[j]? = some (msg j)) ∧ (md5Pad msg len)[len]? = some 0x80#8 ∧
    (∀ j, len < j → j < len + 1 + md5ZeroCount len → (md5Pad msg len)[j]? = some 0#8) ∧
    64 * ((len + 8) / 64) + 56 = len + 1 + md5ZeroCount len ∧
    (md5Pad msg len).drop (64 * ((len + 8) / 64) + 56) =
      (List.range 4).map (fun k => (BitVec.ofNat 32 (8 * len % 4294967296)).extractLsb' (8 * k) 8) ++ [0, 0, 0, 0]

/-! ## Memory -/

/-- Two memories in canonical form that read the same at every address are equal data. -/
def Obligations.CanonicalMemoryIsExtensional : Prop :=
  ∀ m n : Memory, Memory.wf m → Memory.wf n → (∀ a, memRead m a = memRead n a) → m = n
end

