-- ==== Sys2Proof/Laws/Bits.lean ====
section
/-! SUPPORT. The byte layout of a word and the fields of a command word, said once. -/

namespace Sys2Proof.Machine

/-- Assembling the four bytes of a word gives the word back (00_scope.md R10). -/
theorem le32_byteOf (v : Word) : le32 (byteOf v 0) (byteOf v 1) (byteOf v 2) (byteOf v 3) = v := by
  apply BitVec.eq_of_getLsbD_eq
  intro i hi
  simp only [le32, zext32, byteOf, BitVec.getLsbD_or, BitVec.getLsbD_shiftLeft, BitVec.getLsbD_setWidth,
    BitVec.getLsbD_extractLsb', Nat.mul_zero, Nat.zero_add]
  interval_cases i <;> simp

/-- Little-endian assembly puts the first byte in the low bits (R10). -/
theorem le32_eq_append (b0 b1 b2 b3 : Byte) : le32 b0 b1 b2 b3 = b3 ++ b2 ++ b1 ++ b0 := by
  apply BitVec.eq_of_getLsbD_eq
  intro i hi
  simp only [le32, zext32, BitVec.getLsbD_or, BitVec.getLsbD_shiftLeft, BitVec.getLsbD_setWidth, BitVec.getLsbD_append]
  interval_cases i <;> simp

/-- Byte `k` of an assembled word is the `k`-th byte. -/
theorem leBytes_le32 (b0 b1 b2 b3 : Byte) : leBytes (le32 b0 b1 b2 b3) = [b0, b1, b2, b3] := by
  have h : ∀ k (b : Byte), k < 4 → (∀ i < 8, (le32 b0 b1 b2 b3).getLsbD (8 * k + i) = b.getLsbD i) →
      byteOf (le32 b0 b1 b2 b3) k = b := by
    intro k b _ hb
    apply BitVec.eq_of_getLsbD_eq
    intro i hi
    simp [byteOf, hi, hb i hi]
  have e : ∀ j, (le32 b0 b1 b2 b3).getLsbD j =
      ((decide (j < 8) && b0.getLsbD j) || (decide (8 ≤ j ∧ j < 16) && b1.getLsbD (j - 8)) ||
        (decide (16 ≤ j ∧ j < 24) && b2.getLsbD (j - 16)) || (decide (24 ≤ j ∧ j < 32) && b3.getLsbD (j - 24))) := by
    intro j
    simp only [le32, zext32, BitVec.getLsbD_or, BitVec.getLsbD_shiftLeft, BitVec.getLsbD_setWidth]
    by_cases hj : j < 32
    · interval_cases j <;> simp
    · simp [show ¬ j < 32 from hj, show ¬ j < 8 by omega, show ¬ j < 16 by omega, show ¬ j < 24 by omega]
  have h0 := h 0 b0 (by omega) (fun i hi => by rw [e]; interval_cases i <;> simp)
  have h1 := h 1 b1 (by omega) (fun i hi => by rw [e]; interval_cases i <;> simp)
  have h2 := h 2 b2 (by omega) (fun i hi => by rw [e]; interval_cases i <;> simp)
  have h3 := h 3 b3 (by omega) (fun i hi => by rw [e]; interval_cases i <;> simp)
  simp only [leBytes, h0, h1, h2, h3]

/-- A command word decodes to the command of its OP and IE (30_encoding.md R74). -/
theorem decodeCommand_commandWord (op : BitVec 4) (ie : Bool) : decodeCommand (commandWord op ie) = commandOf op ie := by
  revert op ie; decide

end Sys2Proof.Machine
end

