-- ==== Sys2Proof/Laws/Memory.lean ====
section
/-! SUPPORT. Memory: a read after a write, and every write keeps the canonical form (log 7). -/

namespace Sys2Proof.Machine

theorem memRead_nil (a : Nat) : memRead [] a = unlistedByte := rfl

theorem memRead_cons (k a : Nat) (b : Byte) (m : Memory) :
    memRead ((k, b) :: m) a = if k = a then b else memRead m a := rfl

/-- Below every listed address nothing is listed. -/
theorem memRead_below (m : Memory) (a : Nat) (h : ∀ c ∈ m, a < c.1) : memRead m a = unlistedByte := by
  induction m with
  | nil => rfl
  | cons c m ih =>
    obtain ⟨k, b⟩ := c
    have hk : a < k := h (k, b) (by simp)
    rw [memRead_cons, if_neg (by omega)]
    exact ih fun c hc => h c (by simp [hc])

theorem memRead_consCell_other (m : Memory) (a x : Nat) (b : Byte) (h : x ≠ a) :
    memRead (consCell a b m) x = memRead m x := by
  unfold consCell
  split
  · rfl
  · rw [memRead_cons, if_neg (Ne.symm h)]

theorem memRead_consCell_same (m : Memory) (a : Nat) (b : Byte) (h : ∀ c ∈ m, a < c.1) :
    memRead (consCell a b m) a = b := by
  unfold consCell
  split
  · next hb => rw [memRead_below m a h, hb]
  · rw [memRead_cons, if_pos rfl]

/-- A write leaves every other address alone. -/
theorem memRead_memWrite_other (m : Memory) (a x : Nat) (b : Byte) (h : x ≠ a) :
    memRead (memWrite m a b) x = memRead m x := by
  induction m with
  | nil => exact memRead_consCell_other [] a x b h
  | cons c m ih =>
    obtain ⟨k, v⟩ := c
    unfold memWrite
    split
    · exact memRead_consCell_other _ a x b h
    · split
      · next hk => rw [memRead_consCell_other _ a x b h, memRead_cons, if_neg (by omega)]
      · rw [memRead_cons, memRead_cons, ih]

/-- A read after a write to the same address gives the byte written. -/
theorem memRead_memWrite_same (m : Memory) (hm : Memory.wf m) (a : Nat) (b : Byte) :
    memRead (memWrite m a b) a = b := by
  induction m with
  | nil => exact memRead_consCell_same [] a b (by simp)
  | cons c m ih =>
    obtain ⟨k, v⟩ := c
    obtain ⟨hs, hc⟩ := hm
    rw [List.pairwise_cons] at hs
    unfold memWrite
    split
    · next hak =>
      apply memRead_consCell_same
      intro c hcm
      rcases List.mem_cons.mp hcm with rfl | hcm
      · exact hak
      · exact Nat.lt_trans hak (hs.1 c hcm)
    · split
      · next hak => subst hak; exact memRead_consCell_same m a b fun c hcm => hs.1 c hcm
      · rw [memRead_cons, if_neg (by omega)]
        exact ih ⟨hs.2, fun c hcm => hc c (by simp [hcm])⟩

/-- Every cell of a memory after a write was there before or is the byte written. -/
theorem mem_memWrite (m : Memory) (a : Nat) (b : Byte) (c : Host.Cell) (h : c ∈ memWrite m a b) :
    c ∈ m ∨ (c = (a, b) ∧ b ≠ unlistedByte) := by
  have cell : ∀ r : Memory, c ∈ consCell a b r → c ∈ r ∨ (c = (a, b) ∧ b ≠ unlistedByte) := by
    intro r hr
    unfold consCell at hr
    split at hr
    · exact .inl hr
    · next hb =>
      rcases List.mem_cons.mp hr with h | h
      · exact .inr ⟨h, hb⟩
      · exact .inl h
  induction m with
  | nil => exact cell [] h
  | cons d m ih =>
    obtain ⟨k, v⟩ := d
    unfold memWrite at h
    split at h
    · exact cell _ h
    · split at h
      · exact (cell _ h).imp_left fun h => List.mem_cons_of_mem _ h
      · rcases List.mem_cons.mp h with h | h
        · exact .inl (h ▸ List.mem_cons_self)
        · exact (ih h).imp_left fun h => List.mem_cons_of_mem _ h

theorem consCell_wf (a : Nat) (b : Byte) (m : Memory) (ha : a < addressSpace) (hm : Memory.wf m)
    (h : ∀ c ∈ m, a < c.1) : Memory.wf (consCell a b m) := by
  unfold consCell
  split
  · exact hm
  · next hb =>
    refine ⟨List.pairwise_cons.mpr ⟨h, hm.1⟩, fun c hc => ?_⟩
    rcases List.mem_cons.mp hc with rfl | hc
    · exact ⟨ha, hb⟩
    · exact hm.2 c hc

/-- A write keeps the canonical form. -/
theorem memWrite_wf (m : Memory) (a : Nat) (b : Byte) (ha : a < addressSpace) (hm : Memory.wf m) :
    Memory.wf (memWrite m a b) := by
  induction m with
  | nil => exact consCell_wf a b [] ha hm (by simp)
  | cons c m ih =>
    obtain ⟨k, v⟩ := c
    have hs := List.pairwise_cons.mp hm.1
    have ht : Memory.wf m := ⟨hs.2, fun c hc => hm.2 c (by simp [hc])⟩
    unfold memWrite
    split
    · next hak =>
      refine consCell_wf a b _ ha hm fun c hc => ?_
      rcases List.mem_cons.mp hc with rfl | hc
      · exact hak
      · exact Nat.lt_trans hak (hs.1 c hc)
    · split
      · next hak => subst hak; exact consCell_wf a b m ha ht fun c hc => hs.1 c hc
      · next h1 h2 =>
        refine ⟨List.pairwise_cons.mpr ⟨fun c hc => ?_, (ih ht).1⟩, fun c hc => ?_⟩
        · rcases mem_memWrite m a b c hc with hc | ⟨rfl, _⟩
          · exact hs.1 c hc
          · show k < a; omega
        · rcases List.mem_cons.mp hc with rfl | hc
          · exact hm.2 _ (by simp)
          · exact (ih ht).2 c hc

end Sys2Proof.Machine
end

