-- ==== Sys2Proof/Laws/State.lean ====
section
/-! SUPPORT. One lemma per field and update of the state, all by `rfl`, so that no proof unfolds a record update. -/

namespace Sys2Proof.Machine

variable (s : State)

@[simp] theorem State.setCtrl_ctrl (v : Ctrl) : (s.setCtrl v).regs.ctrl = v := rfl
@[simp] theorem State.setCtrl_status (v : Ctrl) : (s.setCtrl v).regs.status = s.regs.status := rfl
@[simp] theorem State.setCtrl_src (v : Ctrl) : (s.setCtrl v).regs.src = s.regs.src := rfl
@[simp] theorem State.setCtrl_len (v : Ctrl) : (s.setCtrl v).regs.len = s.regs.len := rfl
@[simp] theorem State.setCtrl_seed (v : Ctrl) : (s.setCtrl v).regs.seed = s.regs.seed := rfl
@[simp] theorem State.setCtrl_tbl (v : Ctrl) : (s.setCtrl v).regs.tbl = s.regs.tbl := rfl
@[simp] theorem State.setCtrl_errAddr (v : Ctrl) : (s.setCtrl v).regs.errAddr = s.regs.errAddr := rfl
@[simp] theorem State.setCtrl_result0 (v : Ctrl) : (s.setCtrl v).regs.result0 = s.regs.result0 := rfl
@[simp] theorem State.setCtrl_result1 (v : Ctrl) : (s.setCtrl v).regs.result1 = s.regs.result1 := rfl
@[simp] theorem State.setCtrl_result2 (v : Ctrl) : (s.setCtrl v).regs.result2 = s.regs.result2 := rfl
@[simp] theorem State.setCtrl_result3 (v : Ctrl) : (s.setCtrl v).regs.result3 = s.regs.result3 := rfl
@[simp] theorem State.setCtrl_latched (v : Ctrl) : (s.setCtrl v).latched = s.latched := rfl
@[simp] theorem State.setCtrl_work (v : Ctrl) : (s.setCtrl v).work = s.work := rfl
@[simp] theorem State.setCtrl_faults (v : Ctrl) : (s.setCtrl v).faults = s.faults := rfl
@[simp] theorem State.setCtrl_mem (v : Ctrl) : (s.setCtrl v).mem = s.mem := rfl
@[simp] theorem State.setCtrl_params (v : Ctrl) : (s.setCtrl v).params = s.params := rfl
@[simp] theorem State.setCtrl_raced (v : Ctrl) : (s.setCtrl v).raced = s.raced := rfl
@[simp] theorem State.setCtrl_readData (v : Ctrl) : (s.setCtrl v).readData = s.readData := rfl
@[simp] theorem State.setCtrl_inbox (v : Ctrl) : (s.setCtrl v).inbox = s.inbox := rfl
@[simp] theorem State.setCtrl_freeCount (v : Ctrl) : (s.setCtrl v).freeCount = s.freeCount := rfl

@[simp] theorem State.setStatus_ctrl (v : Status) : (s.setStatus v).regs.ctrl = s.regs.ctrl := rfl
@[simp] theorem State.setStatus_status (v : Status) : (s.setStatus v).regs.status = v := rfl
@[simp] theorem State.setStatus_src (v : Status) : (s.setStatus v).regs.src = s.regs.src := rfl
@[simp] theorem State.setStatus_len (v : Status) : (s.setStatus v).regs.len = s.regs.len := rfl
@[simp] theorem State.setStatus_seed (v : Status) : (s.setStatus v).regs.seed = s.regs.seed := rfl
@[simp] theorem State.setStatus_tbl (v : Status) : (s.setStatus v).regs.tbl = s.regs.tbl := rfl
@[simp] theorem State.setStatus_errAddr (v : Status) : (s.setStatus v).regs.errAddr = s.regs.errAddr := rfl
@[simp] theorem State.setStatus_result0 (v : Status) : (s.setStatus v).regs.result0 = s.regs.result0 := rfl
@[simp] theorem State.setStatus_result1 (v : Status) : (s.setStatus v).regs.result1 = s.regs.result1 := rfl
@[simp] theorem State.setStatus_result2 (v : Status) : (s.setStatus v).regs.result2 = s.regs.result2 := rfl
@[simp] theorem State.setStatus_result3 (v : Status) : (s.setStatus v).regs.result3 = s.regs.result3 := rfl
@[simp] theorem State.setStatus_latched (v : Status) : (s.setStatus v).latched = s.latched := rfl
@[simp] theorem State.setStatus_work (v : Status) : (s.setStatus v).work = s.work := rfl
@[simp] theorem State.setStatus_faults (v : Status) : (s.setStatus v).faults = s.faults := rfl
@[simp] theorem State.setStatus_mem (v : Status) : (s.setStatus v).mem = s.mem := rfl
@[simp] theorem State.setStatus_params (v : Status) : (s.setStatus v).params = s.params := rfl
@[simp] theorem State.setStatus_raced (v : Status) : (s.setStatus v).raced = s.raced := rfl
@[simp] theorem State.setStatus_readData (v : Status) : (s.setStatus v).readData = s.readData := rfl
@[simp] theorem State.setStatus_inbox (v : Status) : (s.setStatus v).inbox = s.inbox := rfl
@[simp] theorem State.setStatus_freeCount (v : Status) : (s.setStatus v).freeCount = s.freeCount := rfl

@[simp] theorem State.setSrc_ctrl (v : Word) : (s.setSrc v).regs.ctrl = s.regs.ctrl := rfl
@[simp] theorem State.setSrc_status (v : Word) : (s.setSrc v).regs.status = s.regs.status := rfl
@[simp] theorem State.setSrc_src (v : Word) : (s.setSrc v).regs.src = v := rfl
@[simp] theorem State.setSrc_len (v : Word) : (s.setSrc v).regs.len = s.regs.len := rfl
@[simp] theorem State.setSrc_seed (v : Word) : (s.setSrc v).regs.seed = s.regs.seed := rfl
@[simp] theorem State.setSrc_tbl (v : Word) : (s.setSrc v).regs.tbl = s.regs.tbl := rfl
@[simp] theorem State.setSrc_errAddr (v : Word) : (s.setSrc v).regs.errAddr = s.regs.errAddr := rfl
@[simp] theorem State.setSrc_result0 (v : Word) : (s.setSrc v).regs.result0 = s.regs.result0 := rfl
@[simp] theorem State.setSrc_result1 (v : Word) : (s.setSrc v).regs.result1 = s.regs.result1 := rfl
@[simp] theorem State.setSrc_result2 (v : Word) : (s.setSrc v).regs.result2 = s.regs.result2 := rfl
@[simp] theorem State.setSrc_result3 (v : Word) : (s.setSrc v).regs.result3 = s.regs.result3 := rfl
@[simp] theorem State.setSrc_latched (v : Word) : (s.setSrc v).latched = s.latched := rfl
@[simp] theorem State.setSrc_work (v : Word) : (s.setSrc v).work = s.work := rfl
@[simp] theorem State.setSrc_faults (v : Word) : (s.setSrc v).faults = s.faults := rfl
@[simp] theorem State.setSrc_mem (v : Word) : (s.setSrc v).mem = s.mem := rfl
@[simp] theorem State.setSrc_params (v : Word) : (s.setSrc v).params = s.params := rfl
@[simp] theorem State.setSrc_raced (v : Word) : (s.setSrc v).raced = s.raced := rfl
@[simp] theorem State.setSrc_readData (v : Word) : (s.setSrc v).readData = s.readData := rfl
@[simp] theorem State.setSrc_inbox (v : Word) : (s.setSrc v).inbox = s.inbox := rfl
@[simp] theorem State.setSrc_freeCount (v : Word) : (s.setSrc v).freeCount = s.freeCount := rfl

@[simp] theorem State.setLen_ctrl (v : Word) : (s.setLen v).regs.ctrl = s.regs.ctrl := rfl
@[simp] theorem State.setLen_status (v : Word) : (s.setLen v).regs.status = s.regs.status := rfl
@[simp] theorem State.setLen_src (v : Word) : (s.setLen v).regs.src = s.regs.src := rfl
@[simp] theorem State.setLen_len (v : Word) : (s.setLen v).regs.len = v := rfl
@[simp] theorem State.setLen_seed (v : Word) : (s.setLen v).regs.seed = s.regs.seed := rfl
@[simp] theorem State.setLen_tbl (v : Word) : (s.setLen v).regs.tbl = s.regs.tbl := rfl
@[simp] theorem State.setLen_errAddr (v : Word) : (s.setLen v).regs.errAddr = s.regs.errAddr := rfl
@[simp] theorem State.setLen_result0 (v : Word) : (s.setLen v).regs.result0 = s.regs.result0 := rfl
@[simp] theorem State.setLen_result1 (v : Word) : (s.setLen v).regs.result1 = s.regs.result1 := rfl
@[simp] theorem State.setLen_result2 (v : Word) : (s.setLen v).regs.result2 = s.regs.result2 := rfl
@[simp] theorem State.setLen_result3 (v : Word) : (s.setLen v).regs.result3 = s.regs.result3 := rfl
@[simp] theorem State.setLen_latched (v : Word) : (s.setLen v).latched = s.latched := rfl
@[simp] theorem State.setLen_work (v : Word) : (s.setLen v).work = s.work := rfl
@[simp] theorem State.setLen_faults (v : Word) : (s.setLen v).faults = s.faults := rfl
@[simp] theorem State.setLen_mem (v : Word) : (s.setLen v).mem = s.mem := rfl
@[simp] theorem State.setLen_params (v : Word) : (s.setLen v).params = s.params := rfl
@[simp] theorem State.setLen_raced (v : Word) : (s.setLen v).raced = s.raced := rfl
@[simp] theorem State.setLen_readData (v : Word) : (s.setLen v).readData = s.readData := rfl
@[simp] theorem State.setLen_inbox (v : Word) : (s.setLen v).inbox = s.inbox := rfl
@[simp] theorem State.setLen_freeCount (v : Word) : (s.setLen v).freeCount = s.freeCount := rfl

@[simp] theorem State.setSeed_ctrl (v : Word) : (s.setSeed v).regs.ctrl = s.regs.ctrl := rfl
@[simp] theorem State.setSeed_status (v : Word) : (s.setSeed v).regs.status = s.regs.status := rfl
@[simp] theorem State.setSeed_src (v : Word) : (s.setSeed v).regs.src = s.regs.src := rfl
@[simp] theorem State.setSeed_len (v : Word) : (s.setSeed v).regs.len = s.regs.len := rfl
@[simp] theorem State.setSeed_seed (v : Word) : (s.setSeed v).regs.seed = v := rfl
@[simp] theorem State.setSeed_tbl (v : Word) : (s.setSeed v).regs.tbl = s.regs.tbl := rfl
@[simp] theorem State.setSeed_errAddr (v : Word) : (s.setSeed v).regs.errAddr = s.regs.errAddr := rfl
@[simp] theorem State.setSeed_result0 (v : Word) : (s.setSeed v).regs.result0 = s.regs.result0 := rfl
@[simp] theorem State.setSeed_result1 (v : Word) : (s.setSeed v).regs.result1 = s.regs.result1 := rfl
@[simp] theorem State.setSeed_result2 (v : Word) : (s.setSeed v).regs.result2 = s.regs.result2 := rfl
@[simp] theorem State.setSeed_result3 (v : Word) : (s.setSeed v).regs.result3 = s.regs.result3 := rfl
@[simp] theorem State.setSeed_latched (v : Word) : (s.setSeed v).latched = s.latched := rfl
@[simp] theorem State.setSeed_work (v : Word) : (s.setSeed v).work = s.work := rfl
@[simp] theorem State.setSeed_faults (v : Word) : (s.setSeed v).faults = s.faults := rfl
@[simp] theorem State.setSeed_mem (v : Word) : (s.setSeed v).mem = s.mem := rfl
@[simp] theorem State.setSeed_params (v : Word) : (s.setSeed v).params = s.params := rfl
@[simp] theorem State.setSeed_raced (v : Word) : (s.setSeed v).raced = s.raced := rfl
@[simp] theorem State.setSeed_readData (v : Word) : (s.setSeed v).readData = s.readData := rfl
@[simp] theorem State.setSeed_inbox (v : Word) : (s.setSeed v).inbox = s.inbox := rfl
@[simp] theorem State.setSeed_freeCount (v : Word) : (s.setSeed v).freeCount = s.freeCount := rfl

@[simp] theorem State.setTbl_ctrl (v : Word) : (s.setTbl v).regs.ctrl = s.regs.ctrl := rfl
@[simp] theorem State.setTbl_status (v : Word) : (s.setTbl v).regs.status = s.regs.status := rfl
@[simp] theorem State.setTbl_src (v : Word) : (s.setTbl v).regs.src = s.regs.src := rfl
@[simp] theorem State.setTbl_len (v : Word) : (s.setTbl v).regs.len = s.regs.len := rfl
@[simp] theorem State.setTbl_seed (v : Word) : (s.setTbl v).regs.seed = s.regs.seed := rfl
@[simp] theorem State.setTbl_tbl (v : Word) : (s.setTbl v).regs.tbl = v := rfl
@[simp] theorem State.setTbl_errAddr (v : Word) : (s.setTbl v).regs.errAddr = s.regs.errAddr := rfl
@[simp] theorem State.setTbl_result0 (v : Word) : (s.setTbl v).regs.result0 = s.regs.result0 := rfl
@[simp] theorem State.setTbl_result1 (v : Word) : (s.setTbl v).regs.result1 = s.regs.result1 := rfl
@[simp] theorem State.setTbl_result2 (v : Word) : (s.setTbl v).regs.result2 = s.regs.result2 := rfl
@[simp] theorem State.setTbl_result3 (v : Word) : (s.setTbl v).regs.result3 = s.regs.result3 := rfl
@[simp] theorem State.setTbl_latched (v : Word) : (s.setTbl v).latched = s.latched := rfl
@[simp] theorem State.setTbl_work (v : Word) : (s.setTbl v).work = s.work := rfl
@[simp] theorem State.setTbl_faults (v : Word) : (s.setTbl v).faults = s.faults := rfl
@[simp] theorem State.setTbl_mem (v : Word) : (s.setTbl v).mem = s.mem := rfl
@[simp] theorem State.setTbl_params (v : Word) : (s.setTbl v).params = s.params := rfl
@[simp] theorem State.setTbl_raced (v : Word) : (s.setTbl v).raced = s.raced := rfl
@[simp] theorem State.setTbl_readData (v : Word) : (s.setTbl v).readData = s.readData := rfl
@[simp] theorem State.setTbl_inbox (v : Word) : (s.setTbl v).inbox = s.inbox := rfl
@[simp] theorem State.setTbl_freeCount (v : Word) : (s.setTbl v).freeCount = s.freeCount := rfl

@[simp] theorem State.setErrAddr_ctrl (v : Word) : (s.setErrAddr v).regs.ctrl = s.regs.ctrl := rfl
@[simp] theorem State.setErrAddr_status (v : Word) : (s.setErrAddr v).regs.status = s.regs.status := rfl
@[simp] theorem State.setErrAddr_src (v : Word) : (s.setErrAddr v).regs.src = s.regs.src := rfl
@[simp] theorem State.setErrAddr_len (v : Word) : (s.setErrAddr v).regs.len = s.regs.len := rfl
@[simp] theorem State.setErrAddr_seed (v : Word) : (s.setErrAddr v).regs.seed = s.regs.seed := rfl
@[simp] theorem State.setErrAddr_tbl (v : Word) : (s.setErrAddr v).regs.tbl = s.regs.tbl := rfl
@[simp] theorem State.setErrAddr_errAddr (v : Word) : (s.setErrAddr v).regs.errAddr = v := rfl
@[simp] theorem State.setErrAddr_result0 (v : Word) : (s.setErrAddr v).regs.result0 = s.regs.result0 := rfl
@[simp] theorem State.setErrAddr_result1 (v : Word) : (s.setErrAddr v).regs.result1 = s.regs.result1 := rfl
@[simp] theorem State.setErrAddr_result2 (v : Word) : (s.setErrAddr v).regs.result2 = s.regs.result2 := rfl
@[simp] theorem State.setErrAddr_result3 (v : Word) : (s.setErrAddr v).regs.result3 = s.regs.result3 := rfl
@[simp] theorem State.setErrAddr_latched (v : Word) : (s.setErrAddr v).latched = s.latched := rfl
@[simp] theorem State.setErrAddr_work (v : Word) : (s.setErrAddr v).work = s.work := rfl
@[simp] theorem State.setErrAddr_faults (v : Word) : (s.setErrAddr v).faults = s.faults := rfl
@[simp] theorem State.setErrAddr_mem (v : Word) : (s.setErrAddr v).mem = s.mem := rfl
@[simp] theorem State.setErrAddr_params (v : Word) : (s.setErrAddr v).params = s.params := rfl
@[simp] theorem State.setErrAddr_raced (v : Word) : (s.setErrAddr v).raced = s.raced := rfl
@[simp] theorem State.setErrAddr_readData (v : Word) : (s.setErrAddr v).readData = s.readData := rfl
@[simp] theorem State.setErrAddr_inbox (v : Word) : (s.setErrAddr v).inbox = s.inbox := rfl
@[simp] theorem State.setErrAddr_freeCount (v : Word) : (s.setErrAddr v).freeCount = s.freeCount := rfl

@[simp] theorem State.setResults_ctrl (v : Digest) : (s.setResults v).regs.ctrl = s.regs.ctrl := rfl
@[simp] theorem State.setResults_status (v : Digest) : (s.setResults v).regs.status = s.regs.status := rfl
@[simp] theorem State.setResults_src (v : Digest) : (s.setResults v).regs.src = s.regs.src := rfl
@[simp] theorem State.setResults_len (v : Digest) : (s.setResults v).regs.len = s.regs.len := rfl
@[simp] theorem State.setResults_seed (v : Digest) : (s.setResults v).regs.seed = s.regs.seed := rfl
@[simp] theorem State.setResults_tbl (v : Digest) : (s.setResults v).regs.tbl = s.regs.tbl := rfl
@[simp] theorem State.setResults_errAddr (v : Digest) : (s.setResults v).regs.errAddr = s.regs.errAddr := rfl
@[simp] theorem State.setResults_result0 (v : Digest) : (s.setResults v).regs.result0 = v.w0 := rfl
@[simp] theorem State.setResults_result1 (v : Digest) : (s.setResults v).regs.result1 = v.w1 := rfl
@[simp] theorem State.setResults_result2 (v : Digest) : (s.setResults v).regs.result2 = v.w2 := rfl
@[simp] theorem State.setResults_result3 (v : Digest) : (s.setResults v).regs.result3 = v.w3 := rfl
@[simp] theorem State.setResults_latched (v : Digest) : (s.setResults v).latched = s.latched := rfl
@[simp] theorem State.setResults_work (v : Digest) : (s.setResults v).work = s.work := rfl
@[simp] theorem State.setResults_faults (v : Digest) : (s.setResults v).faults = s.faults := rfl
@[simp] theorem State.setResults_mem (v : Digest) : (s.setResults v).mem = s.mem := rfl
@[simp] theorem State.setResults_params (v : Digest) : (s.setResults v).params = s.params := rfl
@[simp] theorem State.setResults_raced (v : Digest) : (s.setResults v).raced = s.raced := rfl
@[simp] theorem State.setResults_readData (v : Digest) : (s.setResults v).readData = s.readData := rfl
@[simp] theorem State.setResults_inbox (v : Digest) : (s.setResults v).inbox = s.inbox := rfl
@[simp] theorem State.setResults_freeCount (v : Digest) : (s.setResults v).freeCount = s.freeCount := rfl

@[simp] theorem State.setRegs_regs (v : RegBlock) : (s.setRegs v).regs = v := rfl
@[simp] theorem State.setRegs_latched (v : RegBlock) : (s.setRegs v).latched = s.latched := rfl
@[simp] theorem State.setRegs_work (v : RegBlock) : (s.setRegs v).work = s.work := rfl
@[simp] theorem State.setRegs_faults (v : RegBlock) : (s.setRegs v).faults = s.faults := rfl
@[simp] theorem State.setRegs_mem (v : RegBlock) : (s.setRegs v).mem = s.mem := rfl
@[simp] theorem State.setRegs_params (v : RegBlock) : (s.setRegs v).params = s.params := rfl
@[simp] theorem State.setRegs_raced (v : RegBlock) : (s.setRegs v).raced = s.raced := rfl
@[simp] theorem State.setRegs_readData (v : RegBlock) : (s.setRegs v).readData = s.readData := rfl
@[simp] theorem State.setRegs_inbox (v : RegBlock) : (s.setRegs v).inbox = s.inbox := rfl
@[simp] theorem State.setRegs_freeCount (v : RegBlock) : (s.setRegs v).freeCount = s.freeCount := rfl

@[simp] theorem State.setLatched_regs (v : Latched) : (s.setLatched v).regs = s.regs := rfl
@[simp] theorem State.setLatched_latched (v : Latched) : (s.setLatched v).latched = v := rfl
@[simp] theorem State.setLatched_work (v : Latched) : (s.setLatched v).work = s.work := rfl
@[simp] theorem State.setLatched_faults (v : Latched) : (s.setLatched v).faults = s.faults := rfl
@[simp] theorem State.setLatched_mem (v : Latched) : (s.setLatched v).mem = s.mem := rfl
@[simp] theorem State.setLatched_params (v : Latched) : (s.setLatched v).params = s.params := rfl
@[simp] theorem State.setLatched_raced (v : Latched) : (s.setLatched v).raced = s.raced := rfl
@[simp] theorem State.setLatched_readData (v : Latched) : (s.setLatched v).readData = s.readData := rfl
@[simp] theorem State.setLatched_inbox (v : Latched) : (s.setLatched v).inbox = s.inbox := rfl
@[simp] theorem State.setLatched_freeCount (v : Latched) : (s.setLatched v).freeCount = s.freeCount := rfl

@[simp] theorem State.setWork_regs (v : Work) : (s.setWork v).regs = s.regs := rfl
@[simp] theorem State.setWork_latched (v : Work) : (s.setWork v).latched = s.latched := rfl
@[simp] theorem State.setWork_work (v : Work) : (s.setWork v).work = v := rfl
@[simp] theorem State.setWork_faults (v : Work) : (s.setWork v).faults = s.faults := rfl
@[simp] theorem State.setWork_mem (v : Work) : (s.setWork v).mem = s.mem := rfl
@[simp] theorem State.setWork_params (v : Work) : (s.setWork v).params = s.params := rfl
@[simp] theorem State.setWork_raced (v : Work) : (s.setWork v).raced = s.raced := rfl
@[simp] theorem State.setWork_readData (v : Work) : (s.setWork v).readData = s.readData := rfl
@[simp] theorem State.setWork_inbox (v : Work) : (s.setWork v).inbox = s.inbox := rfl
@[simp] theorem State.setWork_freeCount (v : Work) : (s.setWork v).freeCount = s.freeCount := rfl

@[simp] theorem State.setFaults_regs (v : ModelFaults) : (s.setFaults v).regs = s.regs := rfl
@[simp] theorem State.setFaults_latched (v : ModelFaults) : (s.setFaults v).latched = s.latched := rfl
@[simp] theorem State.setFaults_work (v : ModelFaults) : (s.setFaults v).work = s.work := rfl
@[simp] theorem State.setFaults_faults (v : ModelFaults) : (s.setFaults v).faults = v := rfl
@[simp] theorem State.setFaults_mem (v : ModelFaults) : (s.setFaults v).mem = s.mem := rfl
@[simp] theorem State.setFaults_params (v : ModelFaults) : (s.setFaults v).params = s.params := rfl
@[simp] theorem State.setFaults_raced (v : ModelFaults) : (s.setFaults v).raced = s.raced := rfl
@[simp] theorem State.setFaults_readData (v : ModelFaults) : (s.setFaults v).readData = s.readData := rfl
@[simp] theorem State.setFaults_inbox (v : ModelFaults) : (s.setFaults v).inbox = s.inbox := rfl
@[simp] theorem State.setFaults_freeCount (v : ModelFaults) : (s.setFaults v).freeCount = s.freeCount := rfl

@[simp] theorem State.setMem_regs (v : Memory) : (s.setMem v).regs = s.regs := rfl
@[simp] theorem State.setMem_latched (v : Memory) : (s.setMem v).latched = s.latched := rfl
@[simp] theorem State.setMem_work (v : Memory) : (s.setMem v).work = s.work := rfl
@[simp] theorem State.setMem_faults (v : Memory) : (s.setMem v).faults = s.faults := rfl
@[simp] theorem State.setMem_mem (v : Memory) : (s.setMem v).mem = v := rfl
@[simp] theorem State.setMem_params (v : Memory) : (s.setMem v).params = s.params := rfl
@[simp] theorem State.setMem_raced (v : Memory) : (s.setMem v).raced = s.raced := rfl
@[simp] theorem State.setMem_readData (v : Memory) : (s.setMem v).readData = s.readData := rfl
@[simp] theorem State.setMem_inbox (v : Memory) : (s.setMem v).inbox = s.inbox := rfl
@[simp] theorem State.setMem_freeCount (v : Memory) : (s.setMem v).freeCount = s.freeCount := rfl

@[simp] theorem State.setRaced_regs (v : Bool) : (s.setRaced v).regs = s.regs := rfl
@[simp] theorem State.setRaced_latched (v : Bool) : (s.setRaced v).latched = s.latched := rfl
@[simp] theorem State.setRaced_work (v : Bool) : (s.setRaced v).work = s.work := rfl
@[simp] theorem State.setRaced_faults (v : Bool) : (s.setRaced v).faults = s.faults := rfl
@[simp] theorem State.setRaced_mem (v : Bool) : (s.setRaced v).mem = s.mem := rfl
@[simp] theorem State.setRaced_params (v : Bool) : (s.setRaced v).params = s.params := rfl
@[simp] theorem State.setRaced_raced (v : Bool) : (s.setRaced v).raced = v := rfl
@[simp] theorem State.setRaced_readData (v : Bool) : (s.setRaced v).readData = s.readData := rfl
@[simp] theorem State.setRaced_inbox (v : Bool) : (s.setRaced v).inbox = s.inbox := rfl
@[simp] theorem State.setRaced_freeCount (v : Bool) : (s.setRaced v).freeCount = s.freeCount := rfl

@[simp] theorem State.setReadData_regs (v : Word) : (s.setReadData v).regs = s.regs := rfl
@[simp] theorem State.setReadData_latched (v : Word) : (s.setReadData v).latched = s.latched := rfl
@[simp] theorem State.setReadData_work (v : Word) : (s.setReadData v).work = s.work := rfl
@[simp] theorem State.setReadData_faults (v : Word) : (s.setReadData v).faults = s.faults := rfl
@[simp] theorem State.setReadData_mem (v : Word) : (s.setReadData v).mem = s.mem := rfl
@[simp] theorem State.setReadData_params (v : Word) : (s.setReadData v).params = s.params := rfl
@[simp] theorem State.setReadData_raced (v : Word) : (s.setReadData v).raced = s.raced := rfl
@[simp] theorem State.setReadData_readData (v : Word) : (s.setReadData v).readData = v := rfl
@[simp] theorem State.setReadData_inbox (v : Word) : (s.setReadData v).inbox = s.inbox := rfl
@[simp] theorem State.setReadData_freeCount (v : Word) : (s.setReadData v).freeCount = s.freeCount := rfl

@[simp] theorem State.setInbox_regs (v : List Event) : (s.setInbox v).regs = s.regs := rfl
@[simp] theorem State.setInbox_latched (v : List Event) : (s.setInbox v).latched = s.latched := rfl
@[simp] theorem State.setInbox_work (v : List Event) : (s.setInbox v).work = s.work := rfl
@[simp] theorem State.setInbox_faults (v : List Event) : (s.setInbox v).faults = s.faults := rfl
@[simp] theorem State.setInbox_mem (v : List Event) : (s.setInbox v).mem = s.mem := rfl
@[simp] theorem State.setInbox_params (v : List Event) : (s.setInbox v).params = s.params := rfl
@[simp] theorem State.setInbox_raced (v : List Event) : (s.setInbox v).raced = s.raced := rfl
@[simp] theorem State.setInbox_readData (v : List Event) : (s.setInbox v).readData = s.readData := rfl
@[simp] theorem State.setInbox_inbox (v : List Event) : (s.setInbox v).inbox = v := rfl
@[simp] theorem State.setInbox_freeCount (v : List Event) : (s.setInbox v).freeCount = s.freeCount := rfl

@[simp] theorem State.setFreeCount_regs (v : Nat) : (s.setFreeCount v).regs = s.regs := rfl
@[simp] theorem State.setFreeCount_latched (v : Nat) : (s.setFreeCount v).latched = s.latched := rfl
@[simp] theorem State.setFreeCount_work (v : Nat) : (s.setFreeCount v).work = s.work := rfl
@[simp] theorem State.setFreeCount_faults (v : Nat) : (s.setFreeCount v).faults = s.faults := rfl
@[simp] theorem State.setFreeCount_mem (v : Nat) : (s.setFreeCount v).mem = s.mem := rfl
@[simp] theorem State.setFreeCount_params (v : Nat) : (s.setFreeCount v).params = s.params := rfl
@[simp] theorem State.setFreeCount_raced (v : Nat) : (s.setFreeCount v).raced = s.raced := rfl
@[simp] theorem State.setFreeCount_readData (v : Nat) : (s.setFreeCount v).readData = s.readData := rfl
@[simp] theorem State.setFreeCount_inbox (v : Nat) : (s.setFreeCount v).inbox = s.inbox := rfl
@[simp] theorem State.setFreeCount_freeCount (v : Nat) : (s.setFreeCount v).freeCount = v := rfl

/-! STATUS under each of its updates. -/

variable (st : Status)

@[simp] theorem Status.onStart_busy : (st.onStart).busy = true := rfl
@[simp] theorem Status.onStart_done : (st.onStart).done = false := rfl
@[simp] theorem Status.onStart_err : (st.onStart).err = false := rfl
@[simp] theorem Status.onStart_busyErr : (st.onStart).busyErr = st.busyErr := rfl
@[simp] theorem Status.onStart_errCode : (st.onStart).errCode = 0 := rfl
@[simp] theorem Status.onStart_l3path : (st.onStart).l3path = 0 := rfl

@[simp] theorem Status.onDrop_busy : (st.onDrop).busy = st.busy := rfl
@[simp] theorem Status.onDrop_done : (st.onDrop).done = st.done := rfl
@[simp] theorem Status.onDrop_err : (st.onDrop).err = st.err := rfl
@[simp] theorem Status.onDrop_busyErr : (st.onDrop).busyErr = true := rfl
@[simp] theorem Status.onDrop_errCode : (st.onDrop).errCode = st.errCode := rfl
@[simp] theorem Status.onDrop_l3path : (st.onDrop).l3path = st.l3path := rfl

@[simp] theorem Status.onSuccess_busy (p : Option (BitVec 2)) : (st.onSuccess p).busy = false := rfl
@[simp] theorem Status.onSuccess_done (p : Option (BitVec 2)) : (st.onSuccess p).done = true := rfl
@[simp] theorem Status.onSuccess_err (p : Option (BitVec 2)) : (st.onSuccess p).err = st.err := rfl
@[simp] theorem Status.onSuccess_busyErr (p : Option (BitVec 2)) : (st.onSuccess p).busyErr = st.busyErr := rfl
@[simp] theorem Status.onSuccess_errCode (p : Option (BitVec 2)) : (st.onSuccess p).errCode = st.errCode := rfl
@[simp] theorem Status.onSuccess_l3path (p : Option (BitVec 2)) : (st.onSuccess p).l3path = p.getD st.l3path := rfl

@[simp] theorem Status.onError_busy (e : HashError) : (st.onError e).busy = false := rfl
@[simp] theorem Status.onError_done (e : HashError) : (st.onError e).done = true := rfl
@[simp] theorem Status.onError_err (e : HashError) : (st.onError e).err = true := rfl
@[simp] theorem Status.onError_busyErr (e : HashError) : (st.onError e).busyErr = st.busyErr := rfl
@[simp] theorem Status.onError_errCode (e : HashError) : (st.onError e).errCode = e.code := rfl
@[simp] theorem Status.onError_l3path (e : HashError) : (st.onError e).l3path = st.l3path := rfl

@[simp] theorem Status.w1c_busy (v : Word) : (st.w1c v).busy = st.busy := rfl
@[simp] theorem Status.w1c_done (v : Word) : (st.w1c v).done = (st.done && !v.getLsbD 1) := rfl
@[simp] theorem Status.w1c_err (v : Word) : (st.w1c v).err = (st.err && !v.getLsbD 2) := rfl
@[simp] theorem Status.w1c_busyErr (v : Word) : (st.w1c v).busyErr = (st.busyErr && !v.getLsbD 3) := rfl
@[simp] theorem Status.w1c_errCode (v : Word) : (st.w1c v).errCode = st.errCode := rfl
@[simp] theorem Status.w1c_l3path (v : Word) : (st.w1c v).l3path = st.l3path := rfl

end Sys2Proof.Machine
end

