-- ==== Sys2Proof/Laws/Ops.lean ====
section
/-! SUPPORT. What each shared operation can do, said once: START, completions, host stores, the reset event, the footprint. -/

namespace Sys2Proof.Machine

variable (s : State)

/-! ## START (40_register_access.md R92, R93) -/

theorem startCommand_busy (ie : Bool) (op : BitVec 4) (h : s.regs.status.busy = true) :
    s.startCommand ie op = s.dropStart := by simp [State.startCommand, h]

theorem startCommand_idle (ie : Bool) (op : BitVec 4) (h : s.regs.status.busy = false) :
    s.startCommand ie op = s.acceptStart ie op := by simp [State.startCommand, h]

/-- The whole state after an accepted START. -/
theorem acceptStart_eq (ie : Bool) (op : BitVec 4) : s.acceptStart ie op =
    { s with
      latched := ⟨op, s.regs.src, s.regs.len, s.regs.seed, s.regs.tbl⟩
      regs := { s.regs with ctrl := ⟨ie, op⟩, status := s.regs.status.onStart, errAddr := 0 }
      raced := false } := rfl

/-- The whole state after a dropped START. -/
theorem dropStart_eq : s.dropStart =
    { s with regs := { s.regs with status := { s.regs.status with busyErr := true } } } := rfl

/-! ## Completions (60_exceptions.md R221, R222, R225) -/

/-- The whole state after an error completion: RESULT0..3 and every latch, memory byte and parameter are kept. -/
theorem completeError_eq (e : HashError) : s.completeError e =
    { s with
      regs := { s.regs with
        status := s.regs.status.onError e
        errAddr := match e with
          | .busError a => BitVec.ofNat 32 a
          | _ => s.regs.errAddr }
      raced := false } := by cases e <;> rfl

/-- The whole state after a success completion. -/
theorem completeSuccess_eq (op : Op) : s.completeSuccess op =
    { s with
      regs := { s.regs with
        status := s.regs.status.onSuccess (s.opPath op)
        result0 := (if s.raced then freeDigest s.freeCount else s.opDigest op).w0
        result1 := (if s.raced then freeDigest s.freeCount else s.opDigest op).w1
        result2 := (if s.raced then freeDigest s.freeCount else s.opDigest op).w2
        result3 := (if s.raced then freeDigest s.freeCount else s.opDigest op).w3 }
      work := freeWork s.freeCount
      raced := false
      freeCount := s.freeCount + 1 } := rfl

/-- All that a completion can answer with a next state. -/
theorem complete_next (t : State) (h : s.complete = .next t) :
    (opOfBits s.latched.op = none ∧ t = s.completeError .illegalOp) ∨
    (∃ op e, opOfBits s.latched.op = some op ∧ s.checkOp op = some e ∧ t = s.completeError e) ∨
    (∃ op, opOfBits s.latched.op = some op ∧ s.checkOp op = none ∧
      regionRefusal s.params op s.latched = none ∧ t = s.completeSuccess op) := by
  unfold State.complete at h
  split at h
  · next ho => exact .inl ⟨ho, by simpa using h.symm⟩
  · next op ho =>
    unfold State.completeOp at h
    split at h
    · next e he => exact .inr (.inl ⟨op, e, ho, he, by simpa using h.symm⟩)
    · next hc =>
      split at h
      · cases h
      · next ht => exact .inr (.inr ⟨op, ho, hc, ht, by simpa using h.symm⟩)

/-- A completion never faults. -/
theorem complete_ne_fault (f : Fault) : s.complete ≠ .fault f := by
  unfold State.complete State.completeOp
  repeat' split
  all_goals simp

/-- The completion of an operation none of whose checks applies. -/
theorem complete_success (op : Op) (ho : opOfBits s.latched.op = some op) (hc : s.checkOp op = none)
    (ht : regionRefusal s.params op s.latched = none) : s.complete = .next (s.completeSuccess op) := by
  simp [State.complete, State.completeOp, ho, hc, ht]

/-- The completion of an operation that passes its checks and touches a region that a model must refuse. -/
theorem complete_refused (op : Op) (r : Refusal) (ho : opOfBits s.latched.op = some op) (hc : s.checkOp op = none)
    (hr : regionRefusal s.params op s.latched = some r) : s.complete = .refused r := by
  simp [State.complete, State.completeOp, ho, hc, hr]

/-- A footprint all of whose addresses are plain is refused nowhere. -/
theorem regionRefusal_none (p : Params) (op : Op) (l : Latched)
    (h : ∀ a ∈ footprint op l, readHasSideEffect p a = false ∧ changesAlone p a = false) : regionRefusal p op l = none := by
  unfold regionRefusal
  rw [if_neg, if_neg]
  · simp only [List.any_eq_true, not_exists, not_and]; intro a ha; simp [(h a ha).2]
  · simp only [List.any_eq_true, not_exists, not_and]; intro a ha; simp [(h a ha).1]

/-- The completion of an operation that a check refuses. -/
theorem complete_error (op : Op) (e : HashError) (ho : opOfBits s.latched.op = some op) (hc : s.checkOp op = some e) :
    s.complete = .next (s.completeError e) := by
  simp [State.complete, State.completeOp, ho, hc]

/-! ## Host stores (20_memory.md R61) -/

theorem hostStore_mem (a : Nat) (b : Byte) : (s.hostStore a b).mem = memWrite s.mem a b := by
  unfold State.hostStore; split <;> rfl

theorem hostStore_regs (a : Nat) (b : Byte) : (s.hostStore a b).regs = s.regs := by
  unfold State.hostStore; split <;> rfl

/-- A host store that races with no operation in flight stores the byte and nothing else. -/
theorem hostStore_elsewhere (a : Nat) (b : Byte) (h : s.racesAt a = false) :
    s.hostStore a b = { s with mem := memWrite s.mem a b } := by
  simp [State.hostStore, h, State.setMem]

theorem hostStore_raced (a : Nat) (b : Byte) : (s.hostStore a b).raced = (s.racesAt a || s.raced) := by
  unfold State.hostStore; split <;> simp_all

theorem hostStore_faults (a : Nat) (b : Byte) :
    (s.hostStore a b).faults = ⟨s.faults.busAccess, s.racesAt a || s.faults.footprintRace⟩ := by
  unfold State.hostStore
  split
  · next h => simp [h]
  · next h => simp [h]

theorem hostStore_keeps (a : Nat) (b : Byte) : (s.hostStore a b).latched = s.latched ∧ (s.hostStore a b).work = s.work ∧
    (s.hostStore a b).params = s.params ∧ (s.hostStore a b).readData = s.readData ∧ (s.hostStore a b).inbox = s.inbox ∧
    (s.hostStore a b).freeCount = s.freeCount := by
  unfold State.hostStore; split <;> exact ⟨rfl, rfl, rfl, rfl, rfl, rfl⟩

/-! ## The reset event (70_reset_and_hazards.md R250) -/

theorem resetCore_eq : s.resetCore =
    { s with
      regs := RegBlock.reset
      latched := freeLatched s.freeCount
      work := freeWork s.freeCount
      raced := false
      freeCount := s.freeCount + 1 } := rfl

/-! ## The footprint (20_memory.md R53, R54) -/

theorem mem_segmentAddrs (g : Segment) (a : Nat) : a ∈ segmentAddrs g ↔ segmentHas g a = true := by
  simp only [segmentAddrs, segmentHas, List.mem_map, List.mem_range, Bool.and_eq_true, decide_eq_true_eq]
  constructor
  · rintro ⟨k, hk, rfl⟩; omega
  · rintro ⟨h1, h2⟩; exact ⟨a - g.base, by omega, by omega⟩

/-- The test for a race is membership in the footprint. -/
theorem inFootprint_iff (l : Latched) (a : Nat) :
    inFootprint l a = true ↔ ∃ op, opOfBits l.op = some op ∧ a ∈ footprint op l := by
  unfold inFootprint
  split
  · next op h =>
    simp only [List.any_eq_true, footprint, List.mem_flatMap, h]
    constructor
    · rintro ⟨g, hg, ha⟩; exact ⟨op, rfl, g, hg, (mem_segmentAddrs g a).mpr ha⟩
    · rintro ⟨op', ho, g, hg, ha⟩
      cases ho
      exact ⟨g, hg, (mem_segmentAddrs g a).mp ha⟩
  · next h => simp [h]

end Sys2Proof.Machine
end

