-- ==== Sys2Proof/Laws/PerInstr.lean ====
section
/-! SUPPORT. The round trip of each instruction: decoding its packet gives it back, one lemma per constructor. -/

namespace Sys2Proof.Laws.RoundTrip

open Sys2Proof Sys2Proof.Machine

/-- Decoding the packet of a well-formed instruction, with BUSY as the instruction needs it, gives the instruction. -/
def Statement (i : Instr) : Prop :=
  wellFormed i = true → ∀ busy, occursWhen busy i = true → decode busy (encode i) = .ok i

/-- A command word is decoded by its OP and IE. -/
theorem decode_command (busy : Bool) (op : BitVec 4) (ie : Bool) :
    decode busy (leBytes (commandWord op ie)) = .ok (commandOf op ie) := by
  simp only [leBytes, decode, le32_byteOf, decodeCommand_commandWord]

/-- A write packet is decoded by the slot of its descriptor. -/
theorem decode_write (busy : Bool) (d : Byte) (v : Word) (slot : Slot) (h : decodeDescriptor d = .ok (true, slot)) :
    decode busy (d :: leBytes v) = .ok (decodeWrite busy v slot) := by
  simp only [leBytes, decode, h, le32_byteOf]

theorem pearson (ie : Bool) : Statement (.pearson ie) := fun _ busy _ => decode_command busy 0x1 ie

theorem crc32t (ie : Bool) : Statement (.crc32t ie) := fun _ busy _ => decode_command busy 0x2 ie

theorem crc32b (ie : Bool) : Statement (.crc32b ie) := fun _ busy _ => decode_command busy 0x3 ie

theorem sdbm (ie : Bool) : Statement (.sdbm ie) := fun _ busy _ => decode_command busy 0x4 ie

theorem fnv1a (ie : Bool) : Statement (.fnv1a ie) := fun _ busy _ => decode_command busy 0x5 ie

theorem oat (ie : Bool) : Statement (.oat ie) := fun _ busy _ => decode_command busy 0x6 ie

theorem lookup3 (ie : Bool) : Statement (.lookup3 ie) := fun _ busy _ => decode_command busy 0x7 ie

theorem md5 (ie : Bool) : Statement (.md5 ie) := fun _ busy _ => decode_command busy 0x8 ie

theorem reservedOp0 (ie : Bool) : Statement (.reservedOp0 ie) := fun _ busy _ => decode_command busy 0x0 ie

theorem reservedOp9 (ie : Bool) : Statement (.reservedOp9 ie) := fun _ busy _ => decode_command busy 0x9 ie

theorem reservedOpA (ie : Bool) : Statement (.reservedOpA ie) := fun _ busy _ => decode_command busy 0xA ie

theorem reservedOpB (ie : Bool) : Statement (.reservedOpB ie) := fun _ busy _ => decode_command busy 0xB ie

theorem reservedOpC (ie : Bool) : Statement (.reservedOpC ie) := fun _ busy _ => decode_command busy 0xC ie

theorem reservedOpD (ie : Bool) : Statement (.reservedOpD ie) := fun _ busy _ => decode_command busy 0xD ie

theorem reservedOpE (ie : Bool) : Statement (.reservedOpE ie) := fun _ busy _ => decode_command busy 0xE ie

theorem reservedOpF (ie : Bool) : Statement (.reservedOpF ie) := fun _ busy _ => decode_command busy 0xF ie

theorem wrCtrl (v : Word) : Statement (.wrCtrl v) := by
  intro h busy _
  have hv : ctrlStart v = false := by simpa [wellFormed, checkForm, ctrlStart] using h
  rw [encode, decode_write busy 0x40 v .ctrl rfl]
  simp [decodeWrite, decodeCtrlWrite, hv]

theorem startAccept (v : Word) : Statement (.startAccept v) := by
  intro h busy hb
  have hv : ctrlStart v = true := by simpa [wellFormed, checkForm, ctrlStart] using h
  have hb : busy = false := by simpa [occursWhen] using hb
  rw [encode, decode_write busy 0x40 v .ctrl rfl]
  simp [decodeWrite, decodeCtrlWrite, hv, hb]

theorem startDrop (v : Word) : Statement (.startDrop v) := by
  intro h busy hb
  have hv : ctrlStart v = true := by simpa [wellFormed, checkForm, ctrlStart] using h
  have hb : busy = true := by simpa [occursWhen] using hb
  rw [encode, decode_write busy 0x40 v .ctrl rfl]
  simp [decodeWrite, decodeCtrlWrite, hv, hb]

theorem rdCtrl : Statement .rdCtrl := fun _ _ _ => rfl

theorem wrStatus (v : Word) : Statement (.wrStatus v) := fun _ busy _ =>
  decode_write busy 0x44 v .status rfl

theorem rdStatus : Statement .rdStatus := fun _ _ _ => rfl

theorem wrSrc (v : Word) : Statement (.wrSrc v) := fun _ busy _ =>
  decode_write busy 0x48 v .src rfl

theorem wrLen (v : Word) : Statement (.wrLen v) := fun _ busy _ =>
  decode_write busy 0x4C v .len rfl

theorem wrSeed (v : Word) : Statement (.wrSeed v) := fun _ busy _ =>
  decode_write busy 0x50 v .seed rfl

theorem wrTbl (v : Word) : Statement (.wrTbl v) := fun _ busy _ =>
  decode_write busy 0x54 v .tbl rfl

theorem rdSrc : Statement .rdSrc := fun _ _ _ => rfl

theorem rdLen : Statement .rdLen := fun _ _ _ => rfl

theorem rdSeed : Statement .rdSeed := fun _ _ _ => rfl

theorem rdTbl : Statement .rdTbl := fun _ _ _ => rfl

theorem rdErrAddr : Statement .rdErrAddr := fun _ _ _ => rfl

theorem rdResult0 : Statement .rdResult0 := fun _ _ _ => rfl

theorem rdResult1 : Statement .rdResult1 := fun _ _ _ => rfl

theorem rdResult2 : Statement .rdResult2 := fun _ _ _ => rfl

theorem rdResult3 : Statement .rdResult3 := fun _ _ _ => rfl

theorem wrRoErrAddr (v : Word) : Statement (.wrRoErrAddr v) := fun _ busy _ =>
  decode_write busy 0x58 v .errAddr rfl

theorem wrRoResult0 (v : Word) : Statement (.wrRoResult0 v) := fun _ busy _ =>
  decode_write busy 0x60 v .result0 rfl

theorem wrRoResult1 (v : Word) : Statement (.wrRoResult1 v) := fun _ busy _ =>
  decode_write busy 0x64 v .result1 rfl

theorem wrRoResult2 (v : Word) : Statement (.wrRoResult2 v) := fun _ busy _ =>
  decode_write busy 0x68 v .result2 rfl

theorem wrRoResult3 (v : Word) : Statement (.wrRoResult3 v) := fun _ busy _ =>
  decode_write busy 0x6C v .result3 rfl

theorem rdRes1C : Statement .rdRes1C := fun _ _ _ => rfl

theorem wrRes1C (v : Word) : Statement (.wrRes1C v) := fun _ busy _ =>
  decode_write busy 0x5C v .res1C rfl

theorem rdRes30 : Statement .rdRes30 := fun _ _ _ => rfl

theorem wrRes30 (v : Word) : Statement (.wrRes30 v) := fun _ busy _ =>
  decode_write busy 0x70 v .res30 rfl

theorem rdRes34 : Statement .rdRes34 := fun _ _ _ => rfl

theorem wrRes34 (v : Word) : Statement (.wrRes34 v) := fun _ busy _ =>
  decode_write busy 0x74 v .res34 rfl

theorem rdRes38 : Statement .rdRes38 := fun _ _ _ => rfl

theorem wrRes38 (v : Word) : Statement (.wrRes38 v) := fun _ busy _ =>
  decode_write busy 0x78 v .res38 rfl

theorem rdRes3C : Statement .rdRes3C := fun _ _ _ => rfl

theorem wrRes3C (v : Word) : Statement (.wrRes3C v) := fun _ busy _ =>
  decode_write busy 0x7C v .res3C rfl

end Sys2Proof.Laws.RoundTrip
end

