-- ==== Sys2Proof/Laws/Step.lean ====
section
/-! SUPPORT. Everything a transaction, an event and a step can do, one inversion lemma each. -/

namespace Sys2Proof.Machine

/-- All that a host transaction can do to a state (spec/40_register_access.md). -/
inductive HostEffect (s : State) : State → Prop where
  | start (ie : Bool) (op : BitVec 4) : HostEffect s (s.startCommand ie op)
  | writeCtrl (v : Word) : HostEffect s (s.writeCtrl v)
  | acknowledge (v : Word) : HostEffect s (s.acknowledge v)
  | setSrc (v : Word) : HostEffect s (s.setSrc v)
  | setLen (v : Word) : HostEffect s (s.setLen v)
  | setSeed (v : Word) : HostEffect s (s.setSeed v)
  | setTbl (v : Word) : HostEffect s (s.setTbl v)
  | read (slot : Slot) : HostEffect s (s.hostRead slot)
  | ignored : HostEffect s s

/-- Every transaction answers a next state, in one of the ways of `HostEffect`. -/
theorem exec_effect (i : Instr) (s : State) : ∃ t, exec i s = .next t ∧ HostEffect s t := by
  cases i
  case wrCtrl v => exact ⟨_, rfl, .writeCtrl v⟩
  case wrStatus v => exact ⟨_, rfl, .acknowledge v⟩
  case wrSrc v => exact ⟨_, rfl, .setSrc v⟩
  case wrLen v => exact ⟨_, rfl, .setLen v⟩
  case wrSeed v => exact ⟨_, rfl, .setSeed v⟩
  case wrTbl v => exact ⟨_, rfl, .setTbl v⟩
  all_goals first
    | exact ⟨_, rfl, .start _ _⟩
    | exact ⟨_, rfl, .read _⟩
    | exact ⟨_, rfl, .ignored⟩

/-- All that an event can do to the state from whose inbox it was taken. -/
inductive EventEffect (s : State) : State → Prop where
  | host {t : State} (h : HostEffect s t) : EventEffect s t
  | rejected (write : Bool) : EventEffect s (s.rejectAccess write)
  | store (a : Nat) (b : Byte) (h : a < addressSpace) : EventEffect s (s.hostStore a b)
  | nothing : EventEffect s s
  | error (e : HashError) (hb : s.regs.status.busy = true)
      (h : (opOfBits s.latched.op = none ∧ e = .illegalOp) ∨
        ∃ op, opOfBits s.latched.op = some op ∧ s.checkOp op = some e) : EventEffect s (s.completeError e)
  | success (op : Op) (hb : s.regs.status.busy = true) (ho : opOfBits s.latched.op = some op)
      (hc : s.checkOp op = none) : EventEffect s (s.completeSuccess op)
  | reset : EventEffect s s.resetCore

theorem engineTurn_effect (s t : State) (h : s.engineTurn = .next t) : EventEffect s t := by
  unfold State.engineTurn at h
  split at h
  · next hb =>
    rcases complete_next s t h with ⟨ho, rfl⟩ | ⟨op, e, ho, hc, rfl⟩ | ⟨op, ho, hc, _, rfl⟩
    · exact .error _ hb (.inl ⟨ho, rfl⟩)
    · exact .error e hb (.inr ⟨op, ho, hc⟩)
    · exact .success op hb ho hc
  · cases h; exact .nothing

theorem transact_effect (s t : State) (packet : List Byte) (h : s.transact packet = .next t) : EventEffect s t := by
  unfold State.transact at h
  split at h
  · next i _ =>
    obtain ⟨u, hu, he⟩ := exec_effect i s
    rw [hu] at h
    cases h
    exact .host he
  · cases h; exact .rejected _
  · cases h
  · cases h

theorem hostAccess_effect (s t : State) (write : Bool) (addr width : Nat) (data : Word)
    (h : s.hostAccess write addr width data = .next t) : EventEffect s t := by
  unfold State.hostAccess at h
  split at h
  · exact transact_effect s t _ h
  · cases h; exact .rejected _
  · cases h; exact .nothing

theorem onEvent_effect (s t : State) (e : Event) (h : s.onEvent e = .next t) : EventEffect s t := by
  cases e with
  | txn packet => exact transact_effect s t packet h
  | access write addr width data => exact hostAccess_effect s t write addr width data h
  | store a b =>
    simp only [State.onEvent, State.storeEvent] at h
    split at h
    · next ha => cases h; exact .store a b ha
    · cases h
  | engine => exact engineTurn_effect s t h
  | reset => cases h; exact .reset

/-- Everything a step can do: the effect of the event it takes from the inbox. -/
theorem step_effect (s t : State) (h : step s = .next t) : EventEffect (s.setInbox s.inbox.tail) t := by
  unfold step State.advance at h
  split at h
  · next hi =>
    have hs : s.setInbox s.inbox.tail = s := by rw [hi]; cases s; cases hi; rfl
    rw [hs]
    exact engineTurn_effect s t h
  · next e rest hi => rw [hi]; exact onEvent_effect _ t e h

/-- A host transaction touches neither memory, nor latches, nor anything the engine keeps to itself but by START. -/
theorem hostEffect_keeps {s t : State} (h : HostEffect s t) :
    t.mem = s.mem ∧ t.params = s.params ∧ t.faults = s.faults ∧ t.inbox = s.inbox ∧ t.work = s.work ∧
      t.freeCount = s.freeCount := by
  cases h <;> first
    | exact ⟨rfl, rfl, rfl, rfl, rfl, rfl⟩
    | (unfold State.startCommand; split <;> exact ⟨rfl, rfl, rfl, rfl, rfl, rfl⟩)

/-- What every event keeps: the parameters and the rest of the inbox; a recorded model fault stays recorded. -/
theorem eventEffect_keeps {s t : State} (h : EventEffect s t) :
    t.params = s.params ∧ t.inbox = s.inbox ∧ (s.faults.busAccess = true → t.faults.busAccess = true) ∧
      (s.faults.footprintRace = true → t.faults.footprintRace = true) := by
  cases h with
  | host h => obtain ⟨_, hp, hf, hi, _, _⟩ := hostEffect_keeps h; rw [hf]; exact ⟨hp, hi, id, id⟩
  | rejected write => cases write <;> exact ⟨rfl, rfl, fun _ => rfl, id⟩
  | store a b _ =>
    obtain ⟨_, _, hp, _, hi, _⟩ := hostStore_keeps s a b
    rw [hostStore_faults]
    exact ⟨hp, hi, id, fun h => by simp [h]⟩
  | nothing => exact ⟨rfl, rfl, id, id⟩
  | error e _ _ => rw [completeError_eq]; exact ⟨rfl, rfl, id, id⟩
  | success op _ _ _ => exact ⟨rfl, rfl, id, id⟩
  | reset => exact ⟨rfl, rfl, id, id⟩

end Sys2Proof.Machine
end

