-- ==== Sys2Proof/Laws/Units.lean ====
section
/-! SUPPORT. What the hash units read and how their loops unfold: a loop lemma each, and one lemma per unit saying that it depends
only on the message bytes below the length and on the table. -/

namespace Sys2Proof.Machine

variable {σ : Type}

/-! ## Loops (00_scope.md R14) -/

theorem forRange_empty (a b : Nat) (init : σ) (body : σ → Nat → σ) (h : b ≤ a) : forRange a b init body = init := by
  simp [forRange, Nat.sub_eq_zero_of_le h]

/-- The last round of a loop from 0. -/
theorem forRange_succ (n : Nat) (init : σ) (body : σ → Nat → σ) :
    forRange 0 (n + 1) init body = body (forRange 0 n init body) n := by
  simp [forRange, List.range'_concat]

/-- The first round of a loop. -/
theorem forRange_first (a b : Nat) (init : σ) (body : σ → Nat → σ) (h : a < b) :
    forRange a b init body = forRange (a + 1) b (body init a) body := by
  obtain ⟨n, rfl⟩ : ∃ n, b = a + (n + 1) := ⟨b - a - 1, by omega⟩
  have h1 : a + (n + 1) - a = n + 1 := by omega
  have h2 : a + (n + 1) - (a + 1) = n := by omega
  simp [forRange, h1, h2, List.range'_succ]

/-- A loop from 0 is a fold over `0 .. n-1`. -/
theorem forRange_zero (n : Nat) (init : σ) (body : σ → Nat → σ) :
    forRange 0 n init body = (List.range n).foldl body init := by
  simp [forRange, List.range_eq_range']

/-- Two loops whose rounds agree inside the range agree. -/
theorem forRange_congr (a b : Nat) (init : σ) (f g : σ → Nat → σ) (h : ∀ w j, a ≤ j → j < b → f w j = g w j) :
    forRange a b init f = forRange a b init g := by
  unfold forRange
  have hj : ∀ j ∈ List.range' a (b - a), a ≤ j ∧ j < b := fun j hj => by
    rw [List.mem_range'_1] at hj; omega
  generalize List.range' a (b - a) = l at hj
  induction l generalizing init with
  | nil => rfl
  | cons j l ih =>
    have hh := hj j List.mem_cons_self
    rw [List.foldl_cons, List.foldl_cons, h init j hh.1 hh.2]
    exact ih _ fun i hi => hj i (List.mem_cons_of_mem _ hi)

/-- What a round keeps, a loop keeps. -/
theorem forRange_invariant (P : σ → Prop) (a b : Nat) (init : σ) (body : σ → Nat → σ) (h0 : P init)
    (h : ∀ w j, a ≤ j → j < b → P w → P (body w j)) : P (forRange a b init body) := by
  unfold forRange
  have hj : ∀ j ∈ List.range' a (b - a), a ≤ j ∧ j < b := fun j hj => by
    rw [List.mem_range'_1] at hj; omega
  generalize List.range' a (b - a) = l at hj
  induction l generalizing init with
  | nil => exact h0
  | cons j l ih =>
    have hh := hj j List.mem_cons_self
    exact ih _ (h init j hh.1 hh.2 h0) fun i hi => hj i (List.mem_cons_of_mem _ hi)

/-- Two loops over different working states whose rounds keep a relation end in it. -/
theorem forRange_rel {τ : Type} (R : σ → τ → Prop) (a b : Nat) (i : σ) (i' : τ) (f : σ → Nat → σ) (g : τ → Nat → τ)
    (h0 : R i i') (h : ∀ w v j, a ≤ j → j < b → R w v → R (f w j) (g v j)) :
    R (forRange a b i f) (forRange a b i' g) := by
  unfold forRange
  have hj : ∀ j ∈ List.range' a (b - a), a ≤ j ∧ j < b := fun j hj => by
    rw [List.mem_range'_1] at hj; omega
  generalize List.range' a (b - a) = l at hj
  induction l generalizing i i' with
  | nil => exact h0
  | cons j l ih =>
    have hh := hj j List.mem_cons_self
    exact ih _ _ (h i i' j hh.1 hh.2 h0) fun i hi => hj i (List.mem_cons_of_mem _ hi)

/-! ## Units -/

variable {msg msg' : Nat → Byte} {len : Nat}

/-- PEARSON reads `Msg[0 .. len-1]` and the table, and `w.res` and `w.h` before it writes them nowhere (R120, 10_state.md R34). -/
theorem pearsonRun_congr (tab tab' : Byte → Byte) (j0 : Nat) (w w' : PearsonWork) (h0 : 0 < len)
    (hm : ∀ j < len, msg j = msg' j) (ht : ∀ k, tab k = tab' k) :
    (pearsonRun msg tab j0 len w).res = (pearsonRun msg' tab' j0 len w').res := by
  obtain rfl : tab = tab' := funext ht
  unfold pearsonRun
  refine forRange_rel (fun v v' : PearsonWork => v.res = v'.res) 0 4 _ _ _ _ rfl fun v v' i _ _ hv => ?_
  unfold pearsonRound
  have e : ∀ (u u' : PearsonWork), u.h = u'.h → u.res = u'.res →
      (forRange j0 len u fun w j => { w with h := tab (w.h ^^^ msg j) }) =
        forRange j0 len u' fun w j => { w with h := tab (w.h ^^^ msg' j) } := by
    intro u u' hh hr
    obtain rfl : u = u' := by cases u; cases u'; simp_all
    exact forRange_congr _ _ _ _ _ fun w j _ hj => by rw [hm j hj]
  dsimp only
  rw [e { v with h := tab (msg 0 + BitVec.ofNat 8 i) } { v' with h := tab (msg' 0 + BitVec.ofNat 8 i) }
    (by simp [hm 0 h0]) hv]

/-- The CRC units read `Msg[0 .. len-1]` and the table (R132, R133). -/
theorem crcRun_congr (entry entry' : Byte → Word) (w w' : CrcWork) (hm : ∀ j < len, msg j = msg' j)
    (he : ∀ k, entry k = entry' k) : crcRun msg entry len w = crcRun msg' entry' len w' := by
  obtain rfl : entry = entry' := funext he
  exact forRange_congr _ _ _ _ _ fun w j _ hj => by rw [hm j hj]

/-- SDBM reads `Msg[0 .. len-1]` (R145). -/
theorem sdbmRun_congr (w w' : AccWork) (hm : ∀ j < len, msg j = msg' j) : sdbmRun msg len w = sdbmRun msg' len w' :=
  forRange_congr _ _ _ _ _ fun w j _ hj => by rw [hm j hj]

/-- FNV1A reads `Msg[0 .. len-1]` (R146). -/
theorem fnv1aRun_congr (w w' : AccWork) (hm : ∀ j < len, msg j = msg' j) : fnv1aRun msg len w = fnv1aRun msg' len w' :=
  forRange_congr _ _ _ _ _ fun w j _ hj => by rw [hm j hj]

/-- OAT reads `Msg[0 .. len-1]` (R147). -/
theorem oatRun_congr (w w' : AccWork) (hm : ∀ j < len, msg j = msg' j) : oatRun msg len w = oatRun msg' len w' := by
  unfold oatRun
  have e : (forRange 0 len { w with h := 0 } fun w j => { w with h := oatByte w.h (msg j) }) =
      forRange 0 len { w' with h := 0 } fun w j => { w with h := oatByte w.h (msg' j) } :=
    forRange_congr _ _ _ _ _ fun w j _ hj => by rw [hm j hj]
  rw [e]

/-! ### lookup3 -/

/-- One round of the loop of R165 at block offset `p`. -/
def lookup3Block (msg : Nat → Byte) (p : Nat) (w : Lookup3Work) : Lookup3Work :=
  lookup3Mix ⟨w.a + lookup3Word msg p, w.b + lookup3Word msg (p + 4), w.c + lookup3Word msg (p + 8)⟩

/-- The loop runs one round for each block of twelve bytes but the last, which it leaves to the tail (R165). -/
theorem lookup3Loop_eq (msg : Nat → Byte) (fuel p n : Nat) (w : Lookup3Work) (h : (n - 1) / 12 ≤ fuel) :
    lookup3Loop msg fuel p n w =
      (p + 12 * ((n - 1) / 12), n - 12 * ((n - 1) / 12),
        (List.range ((n - 1) / 12)).foldl (fun w k => lookup3Block msg (p + 12 * k) w) w) := by
  induction fuel generalizing p n w with
  | zero =>
    have h0 : (n - 1) / 12 = 0 := by omega
    simp [lookup3Loop, h0]
  | succ fuel ih =>
    unfold lookup3Loop
    split
    · next hn =>
      obtain ⟨r, hr⟩ : ∃ r, (n - 1) / 12 = r + 1 := ⟨(n - 1) / 12 - 1, by omega⟩
      have hr' : (n - 12 - 1) / 12 = r := by omega
      have hf : r ≤ fuel := by omega
      rw [ih _ _ _ (by omega), hr, hr']
      simp only [Prod.mk.injEq]
      refine ⟨by omega, by omega, ?_⟩
      rw [List.range_succ_eq_map, List.foldl_cons, List.foldl_map]
      simp only [lookup3Block, Nat.mul_zero, Nat.add_zero, Nat.mul_succ]
      congr 1
      funext v k
      rw [show p + 12 + 12 * k = p + (12 * k + 12) by omega]
    · next hn =>
      have h0 : (n - 1) / 12 = 0 := by omega
      simp [h0]

/-- LOOKUP3 without its loop (R165): the whole blocks but the last, then the tail. -/
theorem lookup3Run_eq (msg : Nat → Byte) (len seed : Word) :
    lookup3Run msg len seed =
      lookup3Finish msg (12 * ((len.toNat - 1) / 12)) (len.toNat - 12 * ((len.toNat - 1) / 12))
        ((List.range ((len.toNat - 1) / 12)).foldl (fun w k => lookup3Block msg (12 * k) w) (lookup3Start len seed)) := by
  unfold lookup3Run
  rw [lookup3Loop_eq msg _ _ _ _ (by omega)]
  simp

/-- LOOKUP3 reads `Msg[0 .. len-1]` and no byte at or past `len` (R162, R166). -/
theorem lookup3Run_congr (len seed : Word) (hm : ∀ j < len.toNat, msg j = msg' j) :
    lookup3Run msg len seed = lookup3Run msg' len seed := by
  rw [lookup3Run_eq, lookup3Run_eq]
  have hw : ∀ p, p + 4 ≤ len.toNat → lookup3Word msg p = lookup3Word msg' p := fun p hp => by
    simp only [lookup3Word]
    rw [hm p (by omega), hm (p + 1) (by omega), hm (p + 2) (by omega), hm (p + 3) (by omega)]
  have hfold : (List.range ((len.toNat - 1) / 12)).foldl (fun w k => lookup3Block msg (12 * k) w) (lookup3Start len seed) =
      (List.range ((len.toNat - 1) / 12)).foldl (fun w k => lookup3Block msg' (12 * k) w) (lookup3Start len seed) := by
    rw [← forRange_zero, ← forRange_zero]
    refine forRange_congr _ _ _ _ _ fun w k _ hk => ?_
    simp only [lookup3Block]
    rw [hw (12 * k) (by omega), hw (12 * k + 4) (by omega), hw (12 * k + 8) (by omega)]
  rw [hfold]
  unfold lookup3Finish
  split
  · rfl
  · have ht : ∀ o, lookup3Tail msg (12 * ((len.toNat - 1) / 12)) (len.toNat - 12 * ((len.toNat - 1) / 12)) o =
        lookup3Tail msg' (12 * ((len.toNat - 1) / 12)) (len.toNat - 12 * ((len.toNat - 1) / 12)) o := by
      intro o
      have hb : ∀ k, tailByte msg (12 * ((len.toNat - 1) / 12)) (len.toNat - 12 * ((len.toNat - 1) / 12)) k =
          tailByte msg' (12 * ((len.toNat - 1) / 12)) (len.toNat - 12 * ((len.toNat - 1) / 12)) k := by
        intro k
        unfold tailByte
        split
        · exact hm _ (by omega)
        · rfl
      simp only [lookup3Tail, hb]
    rw [ht, ht, ht]

/-! ### MD5 -/

/-- The padding engine reads `Msg[0 .. len-1]` (R190). -/
theorem md5Pad_congr (hm : ∀ j < len, msg j = msg' j) : md5Pad msg len = md5Pad msg' len := by
  unfold md5Pad
  rw [List.map_congr_left fun j hj => hm j (List.mem_range.mp hj)]

/-- Two MD5 working states that agree on what `compress` reads: the running digest and the padded message. -/
def SameMd5 (w v : Md5Work) : Prop := w.h0 = v.h0 ∧ w.h1 = v.h1 ∧ w.h2 = v.h2 ∧ w.h3 = v.h3 ∧ w.pad = v.pad

/-- A round leaves the running digest and the padded message alone. -/
theorem md5Round_keeps (m : Nat → Word) (w : Md5Work) (i : Nat) : SameMd5 (md5Round m w i) w := ⟨rfl, rfl, rfl, rfl, rfl⟩

/-- The four round variables after a round, from those before it (R197). -/
theorem md5Round_vars (m : Nat → Word) (w : Md5Work) (i : Nat) :
    (md5Round m w i).a = w.d ∧ (md5Round m w i).d = w.c ∧ (md5Round m w i).c = w.b ∧
      (md5Round m w i).b = w.b + rotl32 (md5F i w.b w.c w.d + w.a + md5K i + m (md5G i)) (md5Shift i) :=
  ⟨rfl, rfl, rfl, rfl⟩

/-- `compress` reads the running digest and the padded message only (R197). -/
theorem md5Compress_congr (w v : Md5Work) (blk : Nat) (h : SameMd5 w v) :
    SameMd5 (md5Compress w blk) (md5Compress v blk) := by
  obtain ⟨h0, h1, h2, h3, hp⟩ := h
  unfold md5Compress SameMd5
  dsimp only
  rw [hp]
  have key := forRange_rel (fun w' v' : Md5Work =>
      SameMd5 w' v' ∧ w'.a = v'.a ∧ w'.b = v'.b ∧ w'.c = v'.c ∧ w'.d = v'.d) 0 64
    { w with a := w.h0, b := w.h1, c := w.h2, d := w.h3 } { v with a := v.h0, b := v.h1, c := v.h2, d := v.h3 }
    (md5Round (md5BlockWord v.pad blk)) (md5Round (md5BlockWord v.pad blk))
    ⟨⟨h0, h1, h2, h3, hp⟩, h0, h1, h2, h3⟩ (by
      rintro w' v' i _ _ ⟨hs, ha, hb, hc, hd⟩
      obtain ⟨ea, ed, ec, eb⟩ := md5Round_vars (md5BlockWord v.pad blk) w' i
      obtain ⟨ea', ed', ec', eb'⟩ := md5Round_vars (md5BlockWord v.pad blk) v' i
      exact ⟨hs, by rw [ea, ea', hd], by rw [eb, eb', ha, hb, hc, hd], by rw [ec, ec', hb], by rw [ed, ed', hc]⟩)
  rw [hp] at key
  obtain ⟨⟨k0, k1, k2, k3, kp⟩, ka, kb, kc, kd⟩ := key
  exact ⟨by rw [k0, ka], by rw [k1, kb], by rw [k2, kc], by rw [k3, kd], by rw [kp]⟩

/-- MD5 reads `Msg[0 .. len-1]`, and no working register before it writes it (R198, 10_state.md R34). -/
theorem md5Run_congr (w v : Md5Work) (hm : ∀ j < len, msg j = msg' j) :
    SameMd5 (md5Run msg len w) (md5Run msg' len v) := by
  unfold md5Run
  rw [md5Pad_congr hm]
  dsimp only
  exact forRange_rel SameMd5 _ _ _ _ _ _ ⟨rfl, rfl, rfl, rfl, rfl⟩ fun w v blk _ _ h => md5Compress_congr w v blk h

end Sys2Proof.Machine
end

