-- ==== Sys2Proof/Tests/Slice0.lean ====
section
/-! SUPPORT. Tests of one step each, and for every statement with hypotheses a witness that meets them. Expected values come
from spec/95_test_vectors.md, spec/30_encoding.md or a hand calculation, never from the model. -/

namespace Sys2Proof.Tests

open Sys2Proof Sys2Proof.Machine Sys2Proof.Claims

/-! ## Helpers -/

/-- A machine whose read port covers addresses 0 to 0xFFFF. -/
def lowParams : Params := ⟨0x40000000, [⟨0, 0x10000⟩], [], [], none, 0⟩

/-- The bytes of a list at `a`, `a + 1`, .... -/
def bytesAt (a : Nat) (bytes : List Byte) : Memory := (bytes.zipIdx).map fun p => (a + p.2, p.1)

/-- `f 0 .. f (n-1)` at `base .. base + n - 1`. -/
def tableAt (base n : Nat) (f : Nat → Byte) : Memory := (List.range n).map fun k => (base + k, f k)

/-- An idle core with operand registers and memory. -/
def idle (src len seed tbl : Word) (mem : Memory) : State :=
  { State.resetWith lowParams with
    regs := { RegBlock.reset with src := src, len := len, seed := seed, tbl := tbl }
    mem := mem }

/-- The same core right after an accepted START of `op`. -/
def flight (op : BitVec 4) (src len seed tbl : Word) (mem : Memory) : State :=
  (idle src len seed tbl mem).acceptStart false op

def isNext (o : Host.Outcome State Fault Refusal) : Bool :=
  match o with
  | .next _ => true
  | _ => false

theorem exists_next {o : Host.Outcome State Fault Refusal} (h : isNext o = true) : ∃ u, o = .next u := by
  cases o with
  | next u => exact ⟨u, rfl⟩
  | _ => cases h

/-- A field of the next state. -/
def after {α : Type} (f : State → α) (o : Host.Outcome State Fault Refusal) : Option α :=
  match o with
  | .next u => some (f u)
  | _ => none

/-- What the host sees of an outcome: STATUS, ERRADDR, RESULT0..3. -/
def outcome (u : State) : Word × Word × List Word :=
  (u.regs.status.read, u.regs.errAddr, [u.regs.result0, u.regs.result1, u.regs.result2, u.regs.result3])

def abc : Memory := bytesAt 0x1000 [0x61, 0x62, 0x63]

theorem plain_low (base count : Nat) (h : base + count ≤ 0x10000) : Plain lowParams base count := by
  intro k hk
  simp only [memReadable, readHasSideEffect, changesAlone, lowParams, regionHas, addressSpace]
  simp; omega

theorem memRead_tableAt (base n : Nat) (f : Nat → Byte) (k : Nat) (h : k < n) : memRead (tableAt base n f) (base + k) = f k := by
  have key : ∀ (l : List Nat), k ∈ l → memRead (l.map fun k => (base + k, f k)) (base + k) = f k := by
    intro l hl
    induction l with
    | nil => cases hl
    | cons x l ih =>
      rw [List.map_cons, memRead_cons]
      by_cases hx : x = k
      · simp [hx]
      · rw [if_neg (by omega)]; exact ih ((List.mem_cons.mp hl).resolve_left fun e => hx e.symm)
  exact key _ (List.mem_range.mpr h)

/-! ## WellFormed: one ill-formed term for each check -/

theorem test_wellFormed_start_set : checkForm (.wrCtrl 0x51) = some .startSetInWrCtrl := by decide
theorem test_wellFormed_start_clear : checkForm (.startAccept 0x50) = some .startClearInStart := by decide
theorem test_wellFormed_drop_clear : wellFormed (.startDrop 0x12) = false := by decide

/-! ## Decoding, from the tables of 30_encoding.md R71, R72, R75, R76 -/

theorem test_decode_commands :
    [[0x11, 0, 0, 0], [0x21, 0, 0, 0], [0x31, 0, 0, 0], [0x41, 0, 0, 0], [0x51, 0, 0, 0], [0x61, 0, 0, 0], [0x71, 0, 0, 0],
      [0x81, 0, 0, 0]].map (decode false) =
    [.pearson false, .crc32t false, .crc32b false, .sdbm false, .fnv1a false, .oat false, .lookup3 false,
      .md5 false].map .ok := by decide

theorem test_decode_reserved_commands :
    [[0x03, 0, 0, 0], [0x93, 0, 0, 0], [0xA3, 0, 0, 0], [0xB3, 0, 0, 0], [0xC3, 0, 0, 0], [0xD3, 0, 0, 0], [0xE3, 0, 0, 0],
      [0xF3, 0, 0, 0]].map (decode true) =
    [.reservedOp0 true, .reservedOp9 true, .reservedOpA true, .reservedOpB true, .reservedOpC true, .reservedOpD true,
      .reservedOpE true, .reservedOpF true].map .ok := by decide

/-- Bits 3:2 and 31:8 of a command are ignored (R74; V-REG-3). -/
theorem test_decode_ignored_bits : decode false [0x8D, 0xFF, 0xFF, 0xFF] = .ok (.md5 false) := by decide

theorem test_decode_ctrl_writes :
    decode false [0x40, 0x02, 0, 0, 0x80] = .ok (.wrCtrl 0x80000002) ∧
    decode false [0x40, 0x81, 0xFF, 0xFF, 0xFF] = .ok (.startAccept 0xFFFFFF81) ∧
    decode true [0x40, 0x13, 0, 0, 0] = .ok (.startDrop 0x13) := by decide

theorem test_decode_reads :
    [[0x00], [0x04], [0x08], [0x0C], [0x10], [0x14], [0x18], [0x20], [0x24], [0x28], [0x2C], [0x1C], [0x30], [0x34], [0x38],
      [0x3C]].map (decode false) =
    [.rdCtrl, .rdStatus, .rdSrc, .rdLen, .rdSeed, .rdTbl, .rdErrAddr, .rdResult0, .rdResult1, .rdResult2, .rdResult3, .rdRes1C,
      .rdRes30, .rdRes34, .rdRes38, .rdRes3C].map .ok := by decide

theorem test_decode_writes :
    [0x44, 0x48, 0x4C, 0x50, 0x54, 0x58, 0x60, 0x64, 0x68, 0x6C, 0x5C, 0x70, 0x74, 0x78, 0x7C].map
      (fun d => decode false [d, 0x04, 0x03, 0x02, 0x01]) =
    [Instr.wrStatus, .wrSrc, .wrLen, .wrSeed, .wrTbl, .wrRoErrAddr, .wrRoResult0, .wrRoResult1, .wrRoResult2, .wrRoResult3,
      .wrRes1C, .wrRes30, .wrRes34, .wrRes38, .wrRes3C].map (fun c => .ok (c 0x01020304)) := by decide

/-- An unaligned offset is no BUS transaction (R71); a descriptor has seven bits; a write has data and a read none. -/
theorem test_decode_refusals :
    decode false [0x05] = .error .notAligned ∧ decode false [0x80] = .error .badDescriptor ∧
    decode false [0x48] = .error .badLength ∧ decode false [0x08, 0, 0, 0, 0] = .error .badLength ∧
    decode false [] = .error .badLength := by decide

theorem test_table_words :
    decodeTableWord 32 0x11 = some (.pearson false) ∧ decodeTableWord 8 0x44 = some (.wrStatus 0) ∧
    decodeTableWord 8 0x2C = some .rdResult3 := by decide

/-- The table numbers eight bits of a command, and its 24 ignored bits are 0 above them: bit 0 tells it from a descriptor. -/
theorem test_table_words_narrow :
    decodeTableWord 8 0x11 = some (.pearson false) ∧ decodeTableWord 8 0x83 = some (.md5 true) ∧
    decodeTableWord 8 0x01 = some (.reservedOp0 false) ∧ decodeTableWord 8 0x48 = some (.wrSrc 0) := by decide

/-- A row of the table placed by `withFetchWord` is what the next step runs (log 1). -/
theorem test_step_from_reset :
    after (fun u => u.regs.status.read) (step ((State.resetWith lowParams).withFetchWord 32 0x51)) = some 1#32 := by decide

/-- The same from `State.reset` itself, with the eight bits the table numbers. -/
theorem test_step_from_reset_narrow :
    after (fun u => u.latched.op) (step (State.reset.withFetchWord 8 0x81)) = some 8#4 := rfl

/-! ## Transactions -/

/-- V-REG-2. -/
theorem test_wrCtrl : after (fun u => (u.regs.ctrl.read, u.irq)) (exec (.wrCtrl 0x2) (idle 0 0 0 0 [])) = some (2#32, false) := by
  decide

/-- V-REG-3. -/
theorem test_startAccept_ignored_bits :
    after (fun u => u.regs.ctrl.read) (exec (.startAccept 0xFFFFFF81) (idle 0 0 0 0 [])) = some 0x80#32 := by decide

/-- V-ERR-10: CTRL.OP stays 8 and BUSYERR is set. -/
theorem test_startDrop : after (fun u => (u.regs.ctrl.read, u.regs.status.read)) (exec (.startDrop 0x13) (flight 8 0 0 0 0 [])) =
    some (0x80#32, 0x9#32) := by decide

/-- V-REG-6: STATUS 0x26 acknowledged is 0x20. -/
theorem test_wrStatus : after (fun u => u.regs.status.read)
    (exec (.wrStatus 0xE) ((flight 1 0 0 0 0 []).completeError .precond)) = some 0x20#32 := by decide

/-- V-REG-7. -/
theorem test_wrStatus_keeps_busy : after (fun u => u.regs.status.busy) (exec (.wrStatus 1) (flight 8 0 0 0 0 [])) = some true := by
  decide

/-- V-REG-8: a 16-bit write to SRC. -/
theorem test_halfword_write : after (fun u => (u.faults.busAccess, u.regs.src))
    (step { idle 0x1234 0 0 0 [] with inbox := [.access true 0x40000008 16 5] }) = some (true, 0x1234#32) := by decide

/-- V-REG-9: an 8-bit read inside the block. -/
theorem test_byte_read : after (fun u => u.faults) (step { idle 0 0 0 0 [] with inbox := [.access false 0x40000005 8 0] }) =
    some ⟨true, false⟩ := by decide

/-- An access of width 0 counts as one of the byte at its address (log 19), at the first and past the last byte of the block. -/
theorem test_zero_width :
    admission lowParams false 0x40000000 0 0 = .busAccess ∧ admission lowParams false 0x40000040 0 0 = .elsewhere := by decide

/-- V-REG-11: IE = 1 after a completion raises IRQ at once. -/
theorem test_irq_rises : after State.irq (exec (.wrCtrl 2) ((flight 0 0 0 0 0 []).completeError .illegalOp)) = some true := by
  decide

/-- V-REG-10: a write of SRC while busy goes to the register, not to the latch. -/
theorem test_wrSrc_while_busy : after (fun u => (u.regs.src, u.latched.src)) (exec (.wrSrc 0x5000) (flight 4 0x2001 0 0 0 [])) =
    some (0x5000#32, 0x2001#32) := by decide

theorem test_rdResult3 : after (fun u => u.readData)
    (exec .rdResult3 ((idle 0 0 0 0 []).setResults ⟨1, 2, 3, 4⟩)) = some 4#32 := by decide

/-! ## Operations: vectors of 95_test_vectors.md section 2 -/

/-- V-PEA-2 with the identity table at the addresses the rounds look up, and j0 = 0. -/
theorem test_pearson : after outcome (step (flight 1 0x1000 2 0 0x3000
    (bytesAt 0x1000 [0x61, 0x62] ++ tableAt 0x3000 256 (fun k => BitVec.ofNat 8 k)))) =
    some (0x2#32, 0#32, [0x67606162#32, 0, 0, 0]) := by decide +kernel

/-- V-PEA-7 with j0 = 1: the seed index wraps. -/
theorem test_pearson_skip_first : after outcome (step { flight 1 0x1000 1 0 0x3000
      (bytesAt 0x1000 [0xFD] ++ tableAt 0x3000 256 (fun k => BitVec.ofNat 8 k)) with
    params := { lowParams with pearsonJStart := 1 } }) = some (0x2#32, 0#32, [0x00FFFEFD#32, 0, 0, 0]) := by decide +kernel

/-- V-CRC-8: a table of zeros. -/
theorem test_crc32t : after outcome (step (flight 2 0x1000 1 0 0x3000 (bytesAt 0x1000 [0x61]))) =
    some (0x2#32, 0#32, [0x0000FFFF#32, 0, 0, 0]) := by decide +kernel

/-- V-CRC-4. -/
theorem test_crc32b : after outcome (step (flight 3 0x1000 3 0 0 abc)) = some (0x2#32, 0#32, [0xCADBBEC2#32, 0, 0, 0]) := by
  decide +kernel

/-- V-CRC-7b and V-CRC-7f. -/
theorem test_computeCRC : computeCRC 0x01 = 0x77073096 ∧ computeCRC 0x9E = 0x17B7BE43 := by decide

/-- V-SDBM-7: the right shift by 16 matters. -/
theorem test_sdbm : after outcome (step (flight 4 0x1000 8 0 0 (bytesAt 0x1000 (List.replicate 8 0xFF)))) =
    some (0x2#32, 0#32, [0x9AABF3AB#32, 0, 0, 0]) := by decide +kernel

/-- V-FNV-3. -/
theorem test_fnv1a : after outcome (step (flight 5 0x1000 3 0 0 abc)) = some (0x2#32, 0#32, [0x1A47E90B#32, 0, 0, 0]) := by
  decide +kernel

/-- V-OAT-3. -/
theorem test_oat : after outcome (step (flight 6 0x1000 3 0 0 abc)) = some (0x2#32, 0#32, [0xED131F5B#32, 0, 0, 0]) := by
  decide +kernel

/-- V-L3-12: one round of `mix` and a tail of one byte, on the half-word path. -/
theorem test_lookup3 : after outcome (step (flight 7 0x1002 13 0 0
    (bytesAt 0x1002 [0x61, 0x62, 0x63, 0x64, 0x65, 0x66, 0x67, 0x68, 0x69, 0x6A, 0x6B, 0x6C, 0x6D]))) =
    some (0x202#32, 0#32, [0x928128F9#32, 0, 0, 0]) := by decide +kernel

/-- V-L3-18: SEED. -/
theorem test_lookup3_seed : after outcome (step (flight 7 0x1000 3 1 0 abc)) =
    some (0x302#32, 0#32, [0xF9F08E9E#32, 0, 0, 0]) := by decide +kernel

/-- V-MD5-2. -/
theorem test_md5 : after outcome (step (flight 8 0x1000 3 0 0 abc)) =
    some (0x2#32, 0#32, [0x98500190#32, 0xB04FD23C, 0x7D3F96D6, 0x727FE128]) := by decide +kernel

/-- V-MD5-6: two blocks. -/
theorem test_md5_two_blocks : after outcome (step (flight 8 0x1000 56 0 0 (bytesAt 0x1000 (List.replicate 56 0x61)))) =
    some (0x2#32, 0#32, [0xC78A0C3B#32, 0xB028F803, 0x70196C4C, 0x1872D106]) := by decide +kernel

/-- E2: the bytes of the digest of "abc" spell 900150983cd24fb0d6963f7d28e17f72. -/
theorem test_digest_bytes : digestBytes ⟨0x98500190, 0xB04FD23C, 0x7D3F96D6, 0x727FE128⟩ =
    [0x90, 0x01, 0x50, 0x98, 0x3C, 0xD2, 0x4F, 0xB0, 0xD6, 0x96, 0x3F, 0x7D, 0x28, 0xE1, 0x7F, 0x72] := by decide

/-! ## Errors -/

/-- V-ERR-1. -/
theorem test_illegal_op : after outcome (step (flight 0 0 0 0 0 [])) = some (0x16#32, 0#32, [0, 0, 0, 0]) := by decide

/-- V-ERR-4: PRECOND before the footprint. -/
theorem test_precond_first : after outcome (step (flight 1 0 0 0 0x20000 [])) = some (0x26#32, 0#32, [0, 0, 0, 0]) := by decide

/-- V-ERR-5: source bytes before the table. -/
theorem test_bus_error_order : after outcome (step (flight 1 0xFFFF 2 0 0x20000 [])) =
    some (0x36#32, 0x00010000#32, [0, 0, 0, 0]) := by decide +kernel

/-- V-ERR-8: the address 2^32 does not wrap, and ERRADDR holds it mod 2^32. -/
theorem test_bus_error_wrap : after outcome (step { flight 4 0xFFFFFFFF 2 0 0 [] with
    params := { lowParams with readable := [⟨0, 0x200000000⟩] } }) = some (0x36#32, 0#32, [0, 0, 0, 0]) := by decide +kernel

/-- R52: a readable region whose value changes without a host store is refused, and an unreadable one is BUS_ERROR. -/
theorem test_volatile_refused :
    (match step { flight 4 0x1000 1 0 0 [] with params := { lowParams with volatile := [⟨0x1000, 1⟩] } } with
      | .refused r => some r
      | _ => none) = some .volatileRegion ∧
    after outcome (step { flight 4 0x20000 1 0 0 [] with params := { lowParams with volatile := [⟨0x20000, 1⟩] } }) =
      some (0x36#32, 0x00020000#32, [0, 0, 0, 0]) := by decide

/-- V-MD5-13 and V-ERR-9: CAPACITY before the footprint. -/
theorem test_capacity : after outcome (step { flight 8 0x20000 56 0 0 [] with params := { lowParams with md5PadBlocks := some 0 } }) =
    some (0x46#32, 0#32, [0, 0, 0, 0]) := by decide +kernel

/-- V-L3-19: the sentinel byte. -/
theorem test_sentinel : after outcome (step (flight 7 0xFFFC 4 0 0 [])) = some (0x36#32, 0x00010000#32, [0, 0, 0, 0]) := by
  decide +kernel

/-! ## Witnesses: for each statement with hypotheses, values that meet them -/

theorem test_hyps_DecodeEncodeAgree :
    (wellFormed (.startAccept 0xFFFFFFFF) = true ∧ occursWhen false (.startAccept 0xFFFFFFFF) = true) ∧
    (wellFormed (.startDrop 1) = true ∧ occursWhen true (.startDrop 1) = true) ∧
    (wellFormed (.wrCtrl 0xFFFFFFFE) = true ∧ occursWhen true (.wrCtrl 0xFFFFFFFE) = true) := by decide

theorem test_hyps_EncodeDecodeAgreeOnBus :
    ([0x7C, 0, 0, 0, 0x80] : List Byte).length ≠ 4 ∧ decode true [0x7C, 0, 0, 0, 0x80] = .ok (.wrRes3C 0x80000000) := by decide

theorem test_hyps_DecodedIsWellFormed : decode true [0x40, 0x01, 0, 0, 0] = .ok (.startDrop 1) := by decide

/-- Both directions of both clauses are met by some value: OP 0 and OP 15 with ignored bits set, and START = 0. -/
theorem test_hyps_CommandMatchAndMask :
    (0xFFFFFF0D#32 &&& 0xF1#32 = ((0#4).setWidth 32 <<< 4) ||| 1#32) ∧
    (0x0F3#32 &&& 0xF1#32 = ((15#4).setWidth 32 <<< 4) ||| 1#32) ∧ (0xFFFFFFFE#32).getLsbD 0 = false := by decide

theorem test_hyps_StepRunsDecodedInstruction :
    ({ idle 0 0 0 0 [] with inbox := [.txn [0x04], .engine] } : State).inbox = .txn [0x04] :: [.engine] ∧
    decode (idle 0 0 0 0 []).regs.status.busy [0x04] = .ok .rdStatus := ⟨rfl, by decide⟩

/-- The first and the last slot. -/
theorem test_hyps_AdmittedAccessIsTransaction :
    ({ idle 0 0 0 0 [] with inbox := [.access false (0x40000000 + 4 * (15#4).toNat) 32 0] } : State).inbox =
      .access false (lowParams.hcBase + 4 * (15#4).toNat) 32 0 :: [] ∧
    ({ idle 0 0 0 0 [] with inbox := [.access true (0x40000000 + 4 * (0#4).toNat) 32 0x51] } : State).inbox =
      .access true (lowParams.hcBase + 4 * (0#4).toNat) 32 0x51 :: [] := ⟨rfl, rfl⟩

/-- A byte read of the last byte of the block, a halfword write that straddles its first, and an access of width 0 at it. -/
theorem test_hyps_OtherBlockAccessIsBusAccess :
    ∀ x ∈ [(false, 0x4000003F, 8), (true, 0x3FFFFFFF, 16), (true, 0x40000000, 0)],
      ({ idle 0 0 0 0 [] with inbox := [.access x.1 x.2.1 x.2.2 0] } : State).inbox = .access x.1 x.2.1 x.2.2 0 :: [] ∧
      x.2.1 < lowParams.hcBase + 64 ∧ lowParams.hcBase < x.2.1 + max 1 ((x.2.2 + 7) / 8) ∧
      ¬ (x.2.2 = 32 ∧ lowParams.hcBase ≤ x.2.1 ∧ (x.2.1 - lowParams.hcBase) % 4 = 0) := by decide

theorem test_hyps_WrCtrlStoresIeAndOp : (0xFFFFFFFE#32).getLsbD 0 = false := by decide

theorem test_hyps_StartAcceptLatchesOperands :
    (0xFFFFFFFF#32).getLsbD 0 = true ∧ (idle 0 0 0 0 []).regs.status.busy = false := by decide

theorem test_hyps_StartDropSetsBusyErr : (1#32).getLsbD 0 = true ∧ (flight 8 0 0 0 0 []).regs.status.busy = true := by decide

theorem test_hyps_CommandIsCtrlWrite :
    (0xF1#32).getLsbD 0 = true ∧ (idle 0 0 0 0 []).regs.status.busy = false ∧ (flight 8 0 0 0 0 []).regs.status.busy = true := by
  decide

/-- An idle core whose message ends at the last readable byte. -/
theorem test_hyps_PearsonDigest : (idle 0xFFFF 1 0 0xFF00 []).regs.status.busy = false ∧ EngineMoves (idle 0xFFFF 1 0 0xFF00 []) ∧
    (idle 0xFFFF 1 0 0xFF00 []).regs.len ≠ 0 ∧ Plain lowParams (0xFFFF#32).toNat (1#32).toNat ∧
    Plain lowParams (0xFF00#32).toNat 256 :=
  ⟨rfl, .inl rfl, by decide, plain_low _ _ (by decide), plain_low _ _ (by decide)⟩

theorem test_hyps_Crc32tDigest : (idle 0 0 0 0xFC00 []).regs.status.busy = false ∧ EngineMoves (idle 0 0 0 0xFC00 []) ∧
    Plain lowParams (0#32).toNat (0#32).toNat ∧ Plain lowParams (0xFC00#32).toNat 1024 :=
  ⟨rfl, .inl rfl, plain_low _ _ (by decide), plain_low _ _ (by decide)⟩

/-- The hypotheses that CRC32B, SDBM, FNV1A and OAT share, with an event waiting after the engine's turn. -/
theorem test_hyps_Crc32bDigest_SdbmDigest_Fnv1aDigest_OatDigest :
    (idle 0xFFFD 3 0 0 []).regs.status.busy = false ∧
    EngineMoves { idle 0xFFFD 3 0 0 [] with inbox := [.engine, .store 0 1] } ∧
    Plain lowParams (0xFFFD#32).toNat (3#32).toNat :=
  ⟨rfl, .inr ⟨_, rfl⟩, plain_low _ _ (by decide)⟩

theorem test_hyps_Lookup3Digest : (idle 0xFFFC 3 0 0 []).regs.status.busy = false ∧ EngineMoves (idle 0xFFFC 3 0 0 []) ∧
    Plain lowParams (0xFFFC#32).toNat ((3#32).toNat + 1) := ⟨rfl, .inl rfl, plain_low _ _ (by decide)⟩

/-- The longest message that fits a buffer of 128 bytes. -/
theorem test_hyps_Md5Digest :
    let s := { idle 0x1000 119 0 0 [] with params := { lowParams with md5PadBlocks := some 1 } }
    s.regs.status.busy = false ∧ EngineMoves s ∧
    (∀ n, s.params.md5PadBlocks = some n → (s.regs.len.toNat + 8) / 64 ≤ n) ∧
    Plain s.params s.regs.src.toNat s.regs.len.toNat :=
  ⟨rfl, .inl rfl, fun n h => by cases h; decide, plain_low _ _ (by decide)⟩

theorem test_hyps_ReservedOpIsIllegalOp : (idle 0 0 0 0 []).regs.status.busy = false ∧ EngineMoves (idle 0 0 0 0 []) :=
  ⟨rfl, .inl rfl⟩

theorem test_hyps_PearsonLengthZeroIsPrecond :
    (idle 0 0 0 0 []).regs.status.busy = false ∧ EngineMoves (idle 0 0 0 0 []) ∧ (idle 0 0 0 0 []).regs.len = 0 :=
  ⟨rfl, .inl rfl, rfl⟩

/-- The shortest message that does not fit a buffer of 128 bytes. -/
theorem test_hyps_Md5OverCapacity :
    let s := { idle 0 120 0 0 [] with params := { lowParams with md5PadBlocks := some 1 } }
    s.regs.status.busy = false ∧ EngineMoves s ∧ s.params.md5PadBlocks = some 1 ∧
    64 * (1 + 1) < 64 * ((s.regs.len.toNat + 8) / 64 + 1) := ⟨rfl, .inl rfl, rfl, by decide⟩

/-- LOOKUP3 of no bytes whose sentinel byte is the first unreadable address, and CRC32T whose table straddles it. -/
theorem test_hyps_BusErrorAtFirstUnreadable :
    ((flight 7 0x10000 0 0 0 []).regs.status.busy = true ∧ EngineMoves (flight 7 0x10000 0 0 0 []) ∧
      opOfBits (flight 7 0x10000 0 0 0 []).latched.op = some .lookup3 ∧
      addresses (0x10000#32).toNat ((0#32).toNat + 1) = [] ++ 0x10000 :: [] ∧ memReadable lowParams 0x10000 = false) ∧
    (opOfBits (flight 2 0xFFFF 1 0 0xFC01 []).latched.op = some .crc32t ∧
      addresses (0xFFFF#32).toNat (1#32).toNat ++ addresses (0xFC01#32).toNat 1024 =
        (addresses 0xFFFF 1 ++ addresses 0xFC01 1023) ++ 0x10000 :: [] ∧
      ∀ x ∈ addresses 0xFFFF 1 ++ addresses 0xFC01 1023, memReadable lowParams x = true) :=
  ⟨⟨rfl, .inl rfl, by decide, by decide, by decide⟩, by decide, by decide +kernel, by decide +kernel⟩

/-- States in flight that meet the invariant and complete: one for each check of R225, and a success. -/
theorem test_hyps_completions :
    ∀ s ∈ [flight 0 0 0 0 0 [], flight 1 0 0 0 0 [], flight 4 0xFFFF 2 0 0 [], flight 6 0x1000 3 0 0 abc,
        { flight 8 0 56 0 0 [] with params := { lowParams with md5PadBlocks := some 0 } }],
      Inv s ∧ s.regs.status.busy = true ∧ EngineMoves s ∧ ∃ u, step s = .next u := by
  intro s hs
  simp only [List.mem_cons, List.not_mem_nil, or_false] at hs
  rcases hs with rfl | rfl | rfl | rfl | rfl
  all_goals exact ⟨⟨by decide, by decide, by decide, by decide, by decide, by decide, by decide⟩, rfl, .inl rfl,
    exists_next (by decide +kernel)⟩

/-- The list above meets the hypotheses of these statements too. -/
theorem test_hyps_CheckOrderDecidesErrorCode_CompletionIsAllOrNothing :
    Inv (flight 0 0 0 0 0 []) ∧ (flight 0 0 0 0 0 []).regs.status.busy = true ∧ EngineMoves (flight 0 0 0 0 0 []) ∧
      ∃ u, step (flight 0 0 0 0 0 []) = .next u := test_hyps_completions _ List.mem_cons_self

theorem test_hyps_ResetEventClearsBlock :
    ({ flight 8 0 0 0 0 abc with inbox := [.reset, .engine] } : State).inbox = .reset :: [.engine] := rfl

theorem test_hyps_StepKeepsInvariant : ∃ t, Inv (flight 6 0x1000 3 0 0 abc) ∧ step (flight 6 0x1000 3 0 0 abc) = .next t := by
  obtain ⟨hi, _, _, u, hu⟩ := test_hyps_completions (flight 6 0x1000 3 0 0 abc) (by simp)
  exact ⟨u, hi, hu⟩

/-- A store to the last address of the space, whose own clause is met, and whose neighbour meets the other clause. -/
theorem test_hyps_OnlyHostStoresChangeMemory :
    let s := { idle 0 0 0 0 abc with inbox := [.store 0xFFFFFFFF 7] }
    Memory.wf s.mem ∧ (∃ t, step s = .next t) ∧ s.inbox = .store 0xFFFFFFFF 7 :: [] ∧
    ∀ b rest, s.inbox ≠ .store 0xFFFFFFFE b :: rest :=
  ⟨by decide, exists_next (by decide), rfl, by simp⟩

/-- Operations that the last two clauses are about; LOOKUP3, which the first of them leaves out, does read SEED (R99). -/
theorem test_hyps_WrOperandRegisters : Op.pearson ≠ .lookup3 ∧ Op.md5 ≠ .pearson ∧ Op.md5 ≠ .crc32t ∧
    (flight 7 0x1000 0 1 0 abc).opDigest .lookup3 ≠ (flight 7 0x1000 0 2 0 abc).opDigest .lookup3 := by decide

theorem test_hyps_ModelFaultsNeverCleared :
    let s := { idle 0 0 0 0 [] with faults := ⟨true, true⟩, inbox := [.reset] }
    s.faults.busAccess = true ∧ s.faults.footprintRace = true ∧ ∃ t, Reaches s t ∧ t.regs = RegBlock.reset :=
  ⟨rfl, rfl, _, .tail (.refl _) rfl, rfl⟩

/-- A completion takes BUSY from 1 to 0, a START from 0 to 1. -/
theorem test_hyps_BusyChangesOnlyBy :
    (∃ t, step (flight 6 0x1000 3 0 0 abc) = .next t ∧ t.regs.status.busy = false) ∧
    (idle 0 0 0 0 []).regs.status.busy = false ∧
    ∃ t, step { idle 0 0 0 0 [] with inbox := [.txn [0x40, 0x51, 0, 0, 0]] } = .next t ∧ t.regs.status.busy = true :=
  ⟨⟨_, rfl, rfl⟩, rfl, _, rfl, rfl⟩

theorem test_hyps_ResultsChangeOnlyBy :
    ∃ t, step (flight 3 0x1000 0 0 0 []) = .next t ∧ t.regs.result0 ≠ (flight 3 0x1000 0 0 0 []).regs.result0 :=
  ⟨_, rfl, by decide +kernel⟩

/-- The unraced success among them, whose digest CompletionIsAllOrNothing names. -/
theorem test_hyps_CompletionIsAllOrNothing_success :
    (flight 6 0x1000 3 0 0 abc).raced = false ∧
      ∃ u, step (flight 6 0x1000 3 0 0 abc) = .next u ∧ u.regs.status.err = false := ⟨rfl, _, rfl, rfl⟩

/-- One byte at the edge of a region of each kind. -/
theorem test_hyps_ForbiddenRegionIsRefused :
    let p := { lowParams with sideEffect := [⟨0x1002, 1⟩], volatile := [⟨0x2000, 1⟩] }
    let s := { flight 4 0x1000 3 0 0 abc with params := p }
    let t := { flight 4 0x2000 1 0 0 abc with params := p }
    (s.regs.status.busy = true ∧ EngineMoves s ∧ opOfBits s.latched.op = some .sdbm ∧
      (∀ a ∈ footprint .sdbm s.latched, memReadable s.params a = true) ∧
      ∃ a ∈ footprint .sdbm s.latched, readHasSideEffect s.params a = true) ∧
    (t.regs.status.busy = true ∧ EngineMoves t ∧ opOfBits t.latched.op = some .sdbm ∧
      (∀ a ∈ footprint .sdbm t.latched, memReadable t.params a = true) ∧
      (∀ a ∈ footprint .sdbm t.latched, readHasSideEffect t.params a = false) ∧
      ∃ a ∈ footprint .sdbm t.latched, changesAlone t.params a = true) :=
  ⟨⟨rfl, .inl rfl, rfl, by decide, by decide⟩, rfl, .inl rfl, rfl, by decide, by decide, by decide⟩

/-- A completed operation, with IE as given. -/
def completed (ie : Bool) : State :=
  { idle 0 0 0 0 [] with regs := { RegBlock.reset with ctrl := ⟨ie, 5⟩, status := ⟨false, true, false, false, 0, 0⟩ } }

theorem test_hyps_IrqLevelAndRise :
    ((flight 6 0x1000 3 0 0 abc).regs.status.busy = true ∧ EngineMoves (flight 6 0x1000 3 0 0 abc) ∧
      ∃ u, step (flight 6 0x1000 3 0 0 abc) = .next u) ∧
    (2#32).getLsbD 0 = false ∧ (completed false).regs.status.done = true ∧ (0x51#32).getLsbD 0 = true :=
  ⟨⟨rfl, .inl rfl, _, rfl⟩, by decide⟩

/-- A completed operation with IE = 1, the write of STATUS that ends its IRQ, and the values of the other clauses. -/
theorem test_hyps_IrqFallsOnlyBy :
    let s := { completed true with inbox := [.txn [0x44, 0x0E, 0, 0, 0]] }
    (s.regs.ctrl.ie = true ∧ s.regs.status.done = true ∧ ∃ t, step s = .next t ∧ t.irq = false) ∧
    ((6#32).getLsbD 1 = true ∧ (6#32).getLsbD 2 = true) ∧ ((0x50#32).getLsbD 0 = false ∧ (0x50#32).getLsbD 1 = false) ∧
    ((0x53#32).getLsbD 0 = true ∧ s.regs.status.busy = false) ∧
    ({ s with inbox := [.reset] } : State).inbox = .reset :: [] :=
  ⟨⟨rfl, rfl, _, rfl, rfl⟩, by decide, by decide, by decide, rfl⟩

theorem test_hyps_TransactionsDoNotAffectFlight :
    ∃ t u, Inv (flight 6 0x1000 3 0 0 abc) ∧ (flight 6 0x1000 3 0 0 abc).regs.status.busy = true ∧
      (flight 6 0x1000 3 0 0 abc).inbox = [] ∧ exec (.wrSrc 5) (flight 6 0x1000 3 0 0 abc) = .next t ∧
      step (flight 6 0x1000 3 0 0 abc) = .next u := by
  obtain ⟨hi, _, _, u, hu⟩ := test_hyps_completions (flight 6 0x1000 3 0 0 abc) (by simp)
  exact ⟨_, u, hi, rfl, rfl, rfl, hu⟩

/-- The last byte of a footprint. -/
theorem test_hyps_FootprintRaceRecordedAndCompletes :
    let s := { flight 7 0x1000 3 0 0 abc with inbox := [.store 0x1003 9] }
    s.regs.status.busy = true ∧ opOfBits s.latched.op = some .lookup3 ∧ 0x1003 ∈ footprint .lookup3 s.latched ∧
    s.inbox = [.store 0x1003 9] ∧
      ∃ t u w, step s = .next t ∧ EngineMoves t ∧ step t = .next u ∧ step { t with raced := false } = .next w :=
  ⟨rfl, rfl, by decide, rfl, _, _, _, rfl, .inl rfl, rfl, rfl⟩

/-- The other clause: the byte next above the footprint in flight, the last byte of memory, and an operand of an idle core. -/
theorem test_hyps_FootprintRaceRecordedAndCompletes_elsewhere :
    (∀ a ∈ [0x1004, 0xFFFFFFFF], a < 4294967296 ∧
      let s := { flight 7 0x1000 3 0 0 abc with inbox := [.store a 9] }
      ¬ (s.regs.status.busy = true ∧ ∃ op, opOfBits s.latched.op = some op ∧ a ∈ footprint op s.latched)) ∧
    (idle 0x1000 3 0 0 abc).regs.status.busy = false := by
  refine ⟨fun a ha => ⟨?_, ?_⟩, rfl⟩
  · revert a; decide
  · rintro s ⟨_, op, ho, hf⟩
    obtain rfl : Op.lookup3 = op := Option.some.inj ho
    revert a; simp only; decide

theorem test_hyps_IdleWhenInboxIsSpent :
    ∃ t, Host.Core.run Sys2Proof.core 2 { idle 0x1000 3 0 0 abc with inbox := [.txn [0x40, 0x51, 0, 0, 0]] } = .next t :=
  exists_next (by decide +kernel)

theorem test_hyps_HcWaitTerminates :
    Inv (flight 6 0x1000 3 0 0 abc) ∧ (flight 6 0x1000 3 0 0 abc).regs.status.busy = true ∧
      ∀ r, (flight 6 0x1000 3 0 0 abc).complete ≠ .refused r := by
  obtain ⟨hi, hb, _⟩ := test_hyps_completions (flight 6 0x1000 3 0 0 abc) (by simp)
  obtain ⟨u, hu⟩ := exists_next (show isNext (flight 6 0x1000 3 0 0 abc).complete = true by decide +kernel)
  exact ⟨hi, hb, fun r => by rw [hu]; exact fun h => by cases h⟩

theorem test_hyps_IdleEngineHasNoStep : (idle 0 0 0 0 []).regs.status.busy = false ∧
    EngineMoves { idle 0 0 0 0 [] with inbox := [.engine] } := ⟨rfl, .inr ⟨_, rfl⟩⟩

theorem test_hyps_HcStartStartsOperation : (idle 0 0 0 0 []).regs.status.busy = false := rfl

theorem test_hyps_StartAndCompletionInEitherOrder :
    (0x51#32).getLsbD 0 = true ∧ (flight 6 0x1000 3 0 0 abc).regs.status.busy = true ∧
      (flight 6 0x1000 3 0 0 abc).inbox = [] ∧ ∃ t, step (flight 6 0x1000 3 0 0 abc) = .next t :=
  ⟨by decide, rfl, rfl, exists_next (by decide +kernel)⟩

/-- Two operations in flight that differ in their working registers and in memory outside the footprint. -/
theorem test_hyps_DigestIsPure :
    let s := flight 4 0x1000 3 0 0 abc
    let t := { flight 4 0x1000 3 0 0 (abc ++ [(0x1003, 9)]) with work := { Work.zero with sdbm := ⟨77⟩ } }
    Inv s ∧ Inv t ∧ s.regs.status.busy = true ∧ t.regs.status.busy = true ∧ s.raced = false ∧ t.raced = false ∧
    s.latched = t.latched ∧ s.params = t.params ∧ EngineMoves s ∧ EngineMoves t ∧
    (∀ a ∈ footprint .sdbm s.latched, memRead s.mem a = memRead t.mem a) ∧ opOfBits s.latched.op = some .sdbm ∧
    ∃ u, step s = .next u :=
  ⟨⟨by decide, by decide, by decide, by decide, by decide, by decide, by decide⟩,
    ⟨by decide, by decide, by decide, by decide, by decide, by decide, by decide⟩,
    rfl, rfl, rfl, rfl, rfl, rfl, .inl rfl, .inl rfl, by decide, rfl, exists_next (by decide +kernel)⟩

/-- The bytes of the table of computed entries (R131, R134). -/
def crcTableByte (j : Nat) : Byte := byteOf (crcEntry (BitVec.ofNat 8 (j / 4))) (j % 4)

/-- Four bytes that are those of a word read as the word. -/
theorem memRead32_of_bytes (m : Memory) (a : Nat) (w : Word) (h : ∀ i < 4, memRead m (a + i) = byteOf w i) :
    memRead32 m a = w := by
  have h0 := h 0 (by omega)
  rw [Nat.add_zero] at h0
  rw [memRead32, h0, h 1 (by omega), h 2 (by omega), h 3 (by omega), le32_byteOf]

theorem flight_mem (op : BitVec 4) (src len seed tbl : Word) (m : Memory) : (flight op src len seed tbl m).mem = m := rfl

theorem flight_tbl (op : BitVec 4) (src len seed tbl : Word) (m : Memory) : (flight op src len seed tbl m).latched.tbl = tbl := rfl

theorem crcTable_entry (k : Byte) : memRead32 (tableAt 0x3000 1024 crcTableByte) (0x3000 + 4 * k.toNat) = crcEntry k :=
  memRead32_of_bytes _ _ _ fun i hi => by
    rw [Nat.add_assoc, memRead_tableAt _ _ _ _ (by omega), crcTableByte,
      show (4 * k.toNat + i) / 4 = k.toNat by omega, show (4 * k.toNat + i) % 4 = i by omega]
    simp

theorem test_hyps_CrcModesAgree :
    let m := tableAt 0x3000 1024 crcTableByte
    let s := flight 2 0x1000 9 0 0x3000 m
    let t := flight 3 0x1000 9 0 0 m
    opOfBits s.latched.op = some .crc32t ∧ opOfBits t.latched.op = some .crc32b ∧ s.mem = t.mem ∧
    s.latched.src = t.latched.src ∧ s.latched.len = t.latched.len ∧
    ∀ k : Byte, memRead32 s.mem (s.latched.tbl.toNat + 4 * k.toNat) = crcEntry k := by
  intro m s t
  refine ⟨rfl, rfl, by rw [flight_mem, flight_mem], rfl, rfl, fun k => ?_⟩
  rw [flight_mem, flight_tbl]
  exact crcTable_entry k

theorem test_hyps_PearsonIdentityTable :
    let s := flight 1 0x1000 3 0 0x3000 (tableAt 0x3000 256 (fun j => BitVec.ofNat 8 j))
    (∀ k : Byte, memRead s.mem (s.latched.tbl.toNat + k.toNat) = k) ∧ s.latched.len ≠ 0 := by
  refine ⟨fun k => ?_, by decide⟩
  exact (memRead_tableAt 0x3000 256 (fun j => BitVec.ofNat 8 j) k.toNat k.isLt).trans (by simp)

/-- The same two bytes on the word path and on the byte path. -/
theorem test_hyps_Lookup3PathsAgree :
    let m : Memory := [(0x1000, 0x61), (0x1001, 0x62), (0x2001, 0x61), (0x2002, 0x62)]
    let s := flight 7 0x1000 2 0 0 m
    let t := flight 7 0x2001 2 0 0 m
    s.latched.len = t.latched.len ∧ s.latched.seed = t.latched.seed ∧
    ∀ j < s.latched.len.toNat, memRead s.mem (s.latched.src.toNat + j) = memRead t.mem (t.latched.src.toNat + j) := by decide

theorem test_hyps_SentinelValueUnused :
    (flight 7 0x1000 3 0 0 abc).latched.src.toNat + (flight 7 0x1000 3 0 0 abc).latched.len.toNat ≤ 0x1003 := by decide

theorem test_hyps_OatOfZeroBytes : ∀ j < (flight 6 0x1000 5 0 0 []).latched.len.toNat,
    memRead (flight 6 0x1000 5 0 0 []).mem ((flight 6 0x1000 5 0 0 []).latched.src.toNat + j) = 0 := by decide

/-- The bounds under the quantifiers of the statement are met: a message of 56 bytes and its count of zeros. -/
theorem test_hyps_Md5PaddedMessage : 55 < 56 ∧ (56 + 1 + 63) % 64 = 56 ∧ 56 < 57 ∧ 57 < 56 + 1 + md5ZeroCount 56 := by decide

theorem test_hyps_CanonicalMemoryIsExtensional :
    Memory.wf abc ∧ Memory.wf (memWrite (memWrite abc 5 9) 5 0) ∧
      ∀ a, memRead abc a = memRead (memWrite (memWrite abc 5 9) 5 0) a := by
  refine ⟨by decide, by decide, fun a => ?_⟩
  rw [show memWrite (memWrite abc 5 9) 5 0 = abc by decide]

/-! ## The host program layer -/

/-- A label that stands twice: the branch goes to its first place (log 24). -/
theorem test_branch_to_first_label :
    (match driverStep (hcWait 0 0 ++ hcWait 0 0) ⟨idle 0 0 0 0 [], 5, [(0, 1)], []⟩ with
      | .next r => some r.pc
      | _ => none) = some 0 := by decide

/-- A read of a reserved offset in the driver syntax (40_register_access.md R111, vector V-REG-5 of 95_test_vectors.md). -/
theorem test_hr_reserved_offset :
    (match driverStep [.hr .reserved30 0] ⟨idle 0 0 0 0 [], 0, [], []⟩ with
      | .next r => nameValue r.names 0
      | _ => none) = some 0 := by decide

end Sys2Proof.Tests
end

/-! # Register access (spec/40_register_access.md): the transactions on CTRL, STATUS, the operand registers, the read-only
registers and the reserved slots -/

/-! ## A transaction as the host sends it -/

section
namespace Sys2Proof.Machine

open Sys2Proof.Claims

theorem startCommand_setInbox (s : State) (es : List Event) (ie : Bool) (op : BitVec 4) :
    (s.setInbox es).startCommand ie op = (s.startCommand ie op).setInbox es := by
  unfold State.startCommand
  rw [State.setInbox_regs]
  split <;> rfl

/-- No transaction reads or writes the events still to come (log 1). -/
theorem exec_setInbox {i : Instr} {s t : State} (es : List Event) (h : exec i s = .next t) :
    exec i (s.setInbox es) = .next (t.setInbox es) := by
  cases i <;> cases h
  case pearson | crc32t | crc32b | sdbm | fnv1a | oat | lookup3 | md5 | reservedOp0 | reservedOp9 | reservedOpA | reservedOpB |
      reservedOpC | reservedOpD | reservedOpE | reservedOpF | startAccept | startDrop =>
    exact congrArg Host.Outcome.next (startCommand_setInbox s es _ _)
  all_goals rfl

/-- A step that finds a packet first in the inbox executes what the packet decodes to. -/
theorem step_txn {i : Instr} {packet : List Byte} (s : State) (rest : List Event)
    (hd : decode s.regs.status.busy packet = .ok i) :
    step { s with inbox := .txn packet :: rest } = exec i (s.setInbox rest) := by
  change (s.setInbox rest).transact packet = _
  unfold State.transact
  rw [State.setInbox_regs, hd]

/-- The step that takes the packet of `i` does what `exec` of `i` does. -/
theorem transacts_of_decode {i : Instr} {packet : List Byte} {s t : State}
    (hd : decode s.regs.status.busy packet = .ok i) (hx : exec i s = .next t) : Transacts i packet s t :=
  ⟨hx, fun rest => (step_txn s rest hd).trans (exec_setInbox rest hx)⟩

/-- Every instruction that decodes back from its packet is transacted by it, in the states in which it can occur. -/
theorem transacts_of_roundTrip {i : Instr} {s t : State} (hr : Laws.RoundTrip.Statement i) (hw : wellFormed i = true)
    (ho : occursWhen s.regs.status.busy i = true) (hx : exec i s = .next t) : Transacts i (encode i) s t :=
  transacts_of_decode (hr hw _ ho) hx

/-! ## Reads by slot -/

theorem decode_encode_decodeRead (busy : Bool) (slot : Slot) :
    decode busy (encode (decodeRead slot)) = .ok (decodeRead slot) := by
  cases slot <;> rfl

theorem exec_decodeRead (s : State) (slot : Slot) : exec (decodeRead slot) s = .next (s.hostRead slot) := by
  cases slot <;> rfl

/-- A read of any slot answers the state that differs in the value read only, and that value is the slot's (log 6). -/
theorem transacts_read (s : State) (slot : Slot) :
    Transacts (decodeRead slot) (encode (decodeRead slot)) s { s with readData := s.regs.readSlot slot } :=
  transacts_of_decode (decode_encode_decodeRead _ slot) (exec_decodeRead s slot)

/-! ## CTRL and STATUS -/

/-- A read of CTRL bit by bit (R94): OP in bits 7:4, IE in bit 1. -/
theorem Ctrl.getLsbD_read (c : Ctrl) (k : Nat) :
    c.read.getLsbD k = ((decide (4 ≤ k ∧ k < 8) && c.op.getLsbD (k - 4)) || (decide (k = 1) && c.ie)) := by
  have hop : (c.op.setWidth 32 <<< 4).getLsbD k = (decide (4 ≤ k ∧ k < 8) && c.op.getLsbD (k - 4)) := by
    rw [BitVec.getLsbD_shiftLeft, BitVec.getLsbD_setWidth]
    by_cases hlow : k < 4
    · simp [hlow, Nat.not_le_of_lt hlow]
    · by_cases hhigh : k < 8
      · simp [hlow, hhigh, Nat.le_of_not_lt hlow, show k < 32 by omega, show k - 4 < 32 by omega]
      · simp [hhigh, BitVec.getLsbD_of_ge c.op (k - 4) (by omega)]
  have hie : ((BitVec.ofBool c.ie).setWidth 32 <<< 1).getLsbD k = (decide (k = 1) && c.ie) := by
    rw [BitVec.getLsbD_shiftLeft, BitVec.getLsbD_setWidth]
    by_cases h : k = 1
    · simp [h]
    · by_cases h0 : k = 0
      · simp [h0]
      · simp [h, BitVec.getLsbD_of_ge (BitVec.ofBool c.ie) (k - 1) (by omega)]
  rw [Ctrl.read, BitVec.getLsbD_or, hop, hie]

theorem Ctrl.extractLsb'_read (c : Ctrl) : c.read.extractLsb' 4 4 = c.op := by
  apply BitVec.eq_of_getLsbD_eq
  intro k hk
  have hop : 4 ≤ 4 + k ∧ 4 + k < 8 := by omega
  have hie : ¬ 4 + k = 1 := by omega
  simp only [BitVec.getLsbD_extractLsb', Ctrl.getLsbD_read, hk, hop, hie, Nat.add_sub_cancel_left]
  simp

/-- A bit written as 1 clears the flag and a bit written as 0 keeps it (R95). -/
theorem Status.w1c_eq (st : Status) (v : Word) : st.w1c v =
    { st with
      done := if v.getLsbD 1 then false else st.done
      err := if v.getLsbD 2 then false else st.err
      busyErr := if v.getLsbD 3 then false else st.busyErr } := by
  have clear (flag bit : Bool) : (flag && !bit) = if bit then false else flag := by cases bit <;> simp
  rw [Status.w1c, clear, clear, clear]

/-! ## Which operations read the latched SEED and TBL (20_memory.md R53, R99, R100) -/

/-- No footprint depends on SEED. -/
theorem footprint_latched_seed (op : Op) (l : Latched) (v : Word) : footprint op { l with seed := v } = footprint op l := by
  cases op <;> rfl

/-- No digest but that of LOOKUP3 depends on the latched SEED. -/
theorem opDigest_latched_seed (s : State) {op : Op} (v : Word) (h : op ≠ .lookup3) :
    ({ s with latched := { s.latched with seed := v } } : State).opDigest op = s.opDigest op := by
  cases op
  case lookup3 => exact absurd rfl h
  all_goals rfl

/-- No footprint but those of PEARSON and CRC32T depends on the latched TBL. -/
theorem footprint_latched_tbl {op : Op} (l : Latched) (v : Word) (hp : op ≠ .pearson) (hc : op ≠ .crc32t) :
    footprint op { l with tbl := v } = footprint op l := by
  cases op
  case pearson => exact absurd rfl hp
  case crc32t => exact absurd rfl hc
  all_goals rfl

/-- No digest but those of PEARSON and CRC32T depends on the latched TBL. -/
theorem opDigest_latched_tbl (s : State) {op : Op} (v : Word) (hp : op ≠ .pearson) (hc : op ≠ .crc32t) :
    ({ s with latched := { s.latched with tbl := v } } : State).opDigest op = s.opDigest op := by
  cases op
  case pearson => exact absurd rfl hp
  case crc32t => exact absurd rfl hc
  all_goals rfl

end Sys2Proof.Machine
end

/-! ## The statements -/

section
namespace Sys2Proof.Proofs.RegisterAccess

open Sys2Proof Sys2Proof.Machine Sys2Proof.Claims Sys2Proof.Laws

/-- Settles O13: the value read is `Ctrl.read`, known bit by bit. -/
theorem rdCtrlReturnsOpAndIe : Obligations.RdCtrlReturnsOpAndIe := by
  intro s
  refine ⟨s.regs.ctrl.read, transacts_read s .ctrl, Ctrl.extractLsb'_read _, ?_, fun k hie hop => ?_⟩
  · rw [Ctrl.getLsbD_read]; rfl
  · rw [Ctrl.getLsbD_read, decide_eq_false hie, decide_eq_false hop]; rfl

/-- Settles O9: WR.CTRL does not look at BUSY, so one evaluation covers the idle and the busy core. -/
theorem wrCtrlStoresIeAndOp : Obligations.WrCtrlStoresIeAndOp := by
  intro s v hv
  have hw : wellFormed (.wrCtrl v) = true := by simp only [wellFormed, checkForm, hv]; rfl
  exact transacts_of_roundTrip (RoundTrip.wrCtrl v) hw rfl rfl

/-- Settles O10: an idle core accepts the START, and an accepted START is `acceptStart_eq`. -/
theorem startAcceptLatchesOperands : Obligations.StartAcceptLatchesOperands := by
  intro s v hv hidle
  have hw : wellFormed (.startAccept v) = true := by simp [wellFormed, checkForm, hv]
  have ho : occursWhen s.regs.status.busy (.startAccept v) = true := by simp [occursWhen, hidle]
  have hx : exec (.startAccept v) s = .next (s.acceptStart (ctrlIe v) (ctrlOp v)) :=
    congrArg Host.Outcome.next (startCommand_idle s _ _ hidle)
  rw [acceptStart_eq] at hx
  exact transacts_of_roundTrip (RoundTrip.startAccept v) hw ho hx

/-- Settles O11: a busy core drops the START, and a dropped START is `dropStart_eq`. -/
theorem startDropSetsBusyErr : Obligations.StartDropSetsBusyErr := by
  intro s v hv hbusy
  have hw : wellFormed (.startDrop v) = true := by simp [wellFormed, checkForm, hv]
  have hx : exec (.startDrop v) s = .next s.dropStart := congrArg Host.Outcome.next (startCommand_busy s _ _ hbusy)
  rw [dropStart_eq] at hx
  exact transacts_of_roundTrip (RoundTrip.startDrop v) hw hbusy hx

/-- Settles O14: the acknowledgement writes `Status.w1c`, which is `Status.w1c_eq`. -/
theorem wrStatusWriteOneToClear : Obligations.WrStatusWriteOneToClear := by
  intro s v
  rw [← Status.w1c_eq]
  exact transacts_of_roundTrip (RoundTrip.wrStatus v) rfl rfl rfl

/-- Settles O16: four whole-state writes, and the independence of footprints and digests from SEED and TBL. -/
theorem wrOperandRegisters : Obligations.WrOperandRegisters := by
  intro s v
  refine ⟨?src, ?len, ?seed, ?tbl, fun op h => ?readsSeed, fun op hp hc => ?readsTbl⟩
  case src => exact transacts_of_roundTrip (RoundTrip.wrSrc v) rfl rfl rfl
  case len => exact transacts_of_roundTrip (RoundTrip.wrLen v) rfl rfl rfl
  case seed => exact transacts_of_roundTrip (RoundTrip.wrSeed v) rfl rfl rfl
  case tbl => exact transacts_of_roundTrip (RoundTrip.wrTbl v) rfl rfl rfl
  case readsSeed => exact ⟨footprint_latched_seed op _ v, opDigest_latched_seed s v h⟩
  case readsTbl => exact ⟨footprint_latched_tbl _ v hp hc, opDigest_latched_tbl s v hp hc⟩

/-- Settles O17: a read returns the slot of the register block, never a latch. -/
theorem rdOperandRegisters : Obligations.RdOperandRegisters := fun s =>
  ⟨transacts_read s .src, transacts_read s .len, transacts_read s .seed, transacts_read s .tbl⟩

/-- Settles O19: a write to a read-only register executes to the state itself. -/
theorem wrReadOnlyIgnored : Obligations.WrReadOnlyIgnored := fun _ v =>
  ⟨transacts_of_roundTrip (RoundTrip.wrRoErrAddr v) rfl rfl rfl,
    transacts_of_roundTrip (RoundTrip.wrRoResult0 v) rfl rfl rfl,
    transacts_of_roundTrip (RoundTrip.wrRoResult1 v) rfl rfl rfl,
    transacts_of_roundTrip (RoundTrip.wrRoResult2 v) rfl rfl rfl,
    transacts_of_roundTrip (RoundTrip.wrRoResult3 v) rfl rfl rfl⟩

/-- Settles O20: reserved slots hold nothing (R30), so reads are 0 and writes are ignored. -/
theorem reservedSlotsReadZeroIgnoreWrites : Obligations.ReservedSlotsReadZeroIgnoreWrites := fun s v =>
  ⟨transacts_read s .res1C, transacts_of_roundTrip (RoundTrip.wrRes1C v) rfl rfl rfl,
    transacts_read s .res30, transacts_of_roundTrip (RoundTrip.wrRes30 v) rfl rfl rfl,
    transacts_read s .res34, transacts_of_roundTrip (RoundTrip.wrRes34 v) rfl rfl rfl,
    transacts_read s .res38, transacts_of_roundTrip (RoundTrip.wrRes38 v) rfl rfl rfl,
    transacts_read s .res3C, transacts_of_roundTrip (RoundTrip.wrRes3C v) rfl rfl rfl⟩

end Sys2Proof.Proofs.RegisterAccess
end

/-! # Reset and hazards (spec/70_reset_and_hazards.md): the reset event -/

section
namespace Sys2Proof.Machine

/-- A step with an event at the head of the inbox handles that event in the state with the rest of the inbox (log 1). -/
theorem step_of_inbox_cons {s : State} {e : Event} {rest : List Event} (h : s.inbox = e :: rest) :
    step s = (s.setInbox rest).onEvent e := by
  rw [step, State.advance, h]

/-- Every slot of the zeroed block reads 0, the reserved ones too (R250, R30). -/
theorem RegBlock.readSlot_reset (slot : Slot) : RegBlock.reset.readSlot slot = 0 := by
  cases slot <;> rfl

/-- No flag of the zeroed block raises IRQ (R230, R250). -/
theorem RegBlock.irq_reset : RegBlock.reset.irq = false := rfl

end Sys2Proof.Machine
end

section
namespace Sys2Proof.Proofs.ResetAndHazards

open Sys2Proof Sys2Proof.Machine Sys2Proof.Claims

/-- Settles O37: the step answers `resetCore`, whose block is `RegBlock.reset` and which by `resetCore_eq` changes nothing else
of what the statement names. -/
theorem resetEventClearsBlock : Obligations.ResetEventClearsBlock := by
  intro s rest hinbox
  have hstep : step s = .next (s.setInbox rest).resetCore := step_of_inbox_cons hinbox
  rw [resetCore_eq] at hstep
  exact ⟨_, hstep, RegBlock.readSlot_reset, rfl, RegBlock.irq_reset, rfl, rfl, rfl, rfl⟩

end Sys2Proof.Proofs.ResetAndHazards
end

/-! # Encoding (spec/30_encoding.md): the decoder, the encoder and the admission of host accesses -/

/-! ## What a packet decodes to -/

section
namespace Sys2Proof.Machine

/-- The index of a slot in the block (10_state.md R21). -/
def slotIndex : Slot → BitVec 4
  | .ctrl => 0
  | .status => 1
  | .src => 2
  | .len => 3
  | .seed => 4
  | .tbl => 5
  | .errAddr => 6
  | .res1C => 7
  | .result0 => 8
  | .result1 => 9
  | .result2 => 10
  | .result3 => 11
  | .res30 => 12
  | .res34 => 13
  | .res38 => 14
  | .res3C => 15

theorem slotIndex_slotAt (n : BitVec 4) : slotIndex (slotAt n) = n := by
  revert n; decide

/-- The descriptor byte of R71: bit 7 clear, the direction, the slot, two zero bits. -/
def descriptor (write : Bool) (slot : Slot) : Byte := 0#1 ++ BitVec.ofBool write ++ slotIndex slot ++ 0#2

theorem encode_decodeRead (slot : Slot) : encode (decodeRead slot) = [descriptor false slot] := by
  cases slot <;> rfl

theorem encode_decodeCtrlWrite (busy : Bool) (v : Word) : encode (decodeCtrlWrite busy v) = 0x40 :: leBytes v := by
  unfold decodeCtrlWrite
  split
  · split <;> rfl
  · rfl

theorem encode_decodeWrite (busy : Bool) (v : Word) (slot : Slot) :
    encode (decodeWrite busy v slot) = descriptor true slot :: leBytes v := by
  cases slot
  case ctrl => exact encode_decodeCtrlWrite busy v
  all_goals rfl

/-- A byte with bits 7, 1 and 0 clear is its direction bit and its index field. -/
theorem byte_eq_append (d : Byte) (h7 : d.getLsbD 7 = false) (h1 : d.getLsbD 1 = false) (h0 : d.getLsbD 0 = false) :
    d = 0#1 ++ BitVec.ofBool (d.getLsbD 6) ++ d.extractLsb' 2 4 ++ 0#2 := by
  apply BitVec.eq_of_getLsbD_eq
  intro i hi
  simp only [BitVec.getLsbD_append, BitVec.getLsbD_extractLsb']
  interval_cases i <;> simp_all

/-- The decoder of descriptors drops no bit (R71). -/
theorem descriptor_of_decodeDescriptor {d : Byte} {write : Bool} {slot : Slot}
    (h : decodeDescriptor d = .ok (write, slot)) : d = descriptor write slot := by
  unfold decodeDescriptor at h
  split at h
  · cases h
  · next h7 =>
    split at h
    · cases h
    · next h10 =>
      simp only [Bool.or_eq_true, not_or, Bool.not_eq_true] at h7 h10
      obtain ⟨rfl, rfl⟩ : d.getLsbD 6 = write ∧ slotAt (d.extractLsb' 2 4) = slot := by simpa using h
      rw [descriptor, slotIndex_slotAt]
      exact byte_eq_append d h7 h10.1 h10.2

/-- All that a packet can decode to: a read of a slot, a command word, or a write of a slot. -/
inductive Decoded (busy : Bool) : List Byte → Instr → Prop where
  | read (slot : Slot) : Decoded busy [descriptor false slot] (decodeRead slot)
  | command (v : Word) : Decoded busy (leBytes v) (decodeCommand v)
  | write (slot : Slot) (v : Word) : Decoded busy (descriptor true slot :: leBytes v) (decodeWrite busy v slot)

theorem decoded_of_decode {busy : Bool} {packet : List Byte} {i : Instr} (h : decode busy packet = .ok i) :
    Decoded busy packet i := by
  unfold decode at h
  split at h
  · split at h
    · cases h
    · cases h
    · next d slot hd => cases h; rw [descriptor_of_decodeDescriptor hd]; exact .read slot
  · next b0 b1 b2 b3 => cases h; rw [← leBytes_le32 b0 b1 b2 b3]; exact .command _
  · next d b0 b1 b2 b3 =>
    split at h
    · cases h
    · cases h
    · next slot hd =>
      cases h; rw [descriptor_of_decodeDescriptor hd, ← leBytes_le32 b0 b1 b2 b3]
      exact .write slot _
  · cases h

/-! ## Well-formedness of what the decoder answers -/

theorem wellFormed_commandOf (op : BitVec 4) (ie : Bool) : wellFormed (commandOf op ie) = true := by
  revert op ie; decide

theorem occursWhen_commandOf (busy : Bool) (op : BitVec 4) (ie : Bool) : occursWhen busy (commandOf op ie) = true := by
  revert busy op ie; decide

theorem wellFormed_decodeCommand (busy : Bool) (v : Word) :
    wellFormed (decodeCommand v) = true ∧ occursWhen busy (decodeCommand v) = true := by
  unfold decodeCommand
  split
  · exact ⟨wellFormed_commandOf _ _, occursWhen_commandOf _ _ _⟩
  · next hv => exact ⟨by simpa [wellFormed, checkForm, ctrlStart] using hv, rfl⟩

theorem wellFormed_decodeCtrlWrite (busy : Bool) (v : Word) :
    wellFormed (decodeCtrlWrite busy v) = true ∧ occursWhen busy (decodeCtrlWrite busy v) = true := by
  unfold decodeCtrlWrite
  split
  · next hv =>
    have hstart : v.getLsbD 0 = true := hv
    cases busy <;> simp [wellFormed, checkForm, occursWhen, hstart]
  · next hv => exact ⟨by simpa [wellFormed, checkForm, ctrlStart] using hv, rfl⟩

theorem Decoded.wellFormed {busy : Bool} {packet : List Byte} {i : Instr} (h : Decoded busy packet i) :
    wellFormed i = true ∧ occursWhen busy i = true := by
  cases h with
  | read slot => cases slot <;> exact ⟨rfl, rfl⟩
  | command v => exact wellFormed_decodeCommand busy v
  | write slot v =>
    cases slot
    case ctrl => exact wellFormed_decodeCtrlWrite busy v
    all_goals exact ⟨rfl, rfl⟩

/-! ## Commands -/

theorem decode_leBytes (busy : Bool) (v : Word) : decode busy (leBytes v) = .ok (decodeCommand v) := by
  simp only [leBytes, decode, le32_byteOf]

theorem decodeCommand_start {v : Word} (h : v.getLsbD 0 = true) : decodeCommand v = commandOf (ctrlOp v) (ctrlIe v) :=
  if_pos h

theorem decodeCommand_noStart {v : Word} (h : v.getLsbD 0 = false) : decodeCommand v = .wrCtrl v :=
  if_neg fun hstart => Bool.false_ne_true (h.symm.trans hstart)

theorem commandOf_op_injective (op op' : BitVec 4) (ie : Bool) (h : commandOf op ie = commandOf op' ie) : op = op' := by
  revert op op' ie; decide

/-- A command is four bytes long, a write of CTRL five. -/
theorem commandOf_ne_wrCtrl (op : BitVec 4) (ie : Bool) (v : Word) : commandOf op ie ≠ .wrCtrl v := by
  have hlen : (encode (commandOf op ie)).length = 4 := by revert op ie; decide
  intro h
  rw [h] at hlen
  exact absurd hlen (by simp [encode, leBytes])

/-- The bits under the mask of R74 are OP and START. -/
theorem and_mask_eq (v : Word) :
    v &&& 0xF1#32 = ((ctrlOp v).setWidth 32 <<< 4) ||| (BitVec.ofBool (v.getLsbD 0)).setWidth 32 := by
  apply BitVec.eq_of_getLsbD_eq
  intro k hk
  simp only [ctrlOp, BitVec.getLsbD_and, BitVec.getLsbD_or, BitVec.getLsbD_shiftLeft, BitVec.getLsbD_setWidth,
    BitVec.getLsbD_extractLsb']
  interval_cases k <;> simp

theorem opAndStart_injective (n m : BitVec 4) (b : Bool)
    (h : (n.setWidth 32 <<< 4) ||| (BitVec.ofBool b).setWidth 32 = (m.setWidth 32 <<< 4) ||| 1#32) : b = true ∧ n = m := by
  revert n m b; decide

/-- The match and the mask of R74 say that START is set and that OP is `n`. -/
theorem and_mask_eq_iff (v : Word) (n : BitVec 4) :
    v &&& 0xF1#32 = (n.setWidth 32 <<< 4) ||| 1#32 ↔ v.getLsbD 0 = true ∧ ctrlOp v = n := by
  rw [and_mask_eq]
  constructor
  · exact opAndStart_injective _ _ _
  · rintro ⟨hstart, rfl⟩
    rw [hstart]
    rfl

/-- Every command executes as the START of its OP and IE (R92, R93). -/
theorem exec_commandOf (op : BitVec 4) (ie : Bool) (s : State) :
    exec (commandOf op ie) s = .next (s.startCommand ie op) := by
  obtain ⟨⟨n, hn⟩⟩ := op
  interval_cases n <;> rfl

/-! ## Host accesses of the block (40_register_access.md R90) -/

theorem decodeDescriptor_read (n : BitVec 4) :
    decodeDescriptor (BitVec.ofNat 8 (4 * n.toNat)) = .ok (false, slotAt n) := by
  revert n; decide

theorem decodeDescriptor_write (n : BitVec 4) :
    decodeDescriptor (BitVec.ofNat 8 (64 + 4 * n.toNat)) = .ok (true, slotAt n) := by
  revert n; decide

theorem admission_slot (p : Params) (write : Bool) (n : BitVec 4) (data : Word) :
    admission p write (p.hcBase + 4 * n.toNat) 32 data = .bus (busPacket write (4 * n.toNat) data) := by
  have hn := n.isLt
  unfold admission
  rw [if_pos ⟨rfl, by omega, by omega, by omega⟩, Nat.add_sub_cancel_left]

theorem decode_read {d : Byte} {slot : Slot} (busy : Bool) (h : decodeDescriptor d = .ok (false, slot)) :
    decode busy [d] = .ok (decodeRead slot) := by
  simp only [decode, h]

/-- A 32-bit read at a slot's address is the read transaction of the slot. -/
theorem hostAccess_read (s : State) (n : BitVec 4) (data : Word) :
    s.hostAccess false (s.params.hcBase + 4 * n.toNat) 32 data = exec (decodeRead (slotAt n)) s := by
  have hd := decode_read s.regs.status.busy (decodeDescriptor_read n)
  simp only [State.hostAccess, admission_slot, busPacket, State.transact, Bool.false_eq_true, if_false, hd]

/-- A 32-bit write at a slot's address is the write transaction of the slot. -/
theorem hostAccess_write (s : State) (n : BitVec 4) (data : Word) :
    s.hostAccess true (s.params.hcBase + 4 * n.toNat) 32 data =
      exec (decodeWrite s.regs.status.busy data (slotAt n)) s := by
  have hd := Laws.RoundTrip.decode_write s.regs.status.busy _ data _ (decodeDescriptor_write n)
  simp only [State.hostAccess, admission_slot, busPacket, State.transact, if_true, hd]

/-- Any other access that overlaps the block is rejected (R90; log 19). -/
theorem hostAccess_rejected {s : State} {write : Bool} {addr width : Nat} {data : Word}
    (hbelow : addr < s.params.hcBase + 64) (habove : s.params.hcBase < addr + accessBytes width)
    (hother : ¬ (width = 32 ∧ s.params.hcBase ≤ addr ∧ (addr - s.params.hcBase) % 4 = 0)) :
    s.hostAccess write addr width data = .next (s.rejectAccess write) := by
  have hbus : ¬ (width = 32 ∧ s.params.hcBase ≤ addr ∧ addr < s.params.hcBase + 64 ∧ (addr - s.params.hcBase) % 4 = 0) :=
    fun ⟨hw, hb, _, ha⟩ => hother ⟨hw, hb, ha⟩
  rw [State.hostAccess, admission, if_neg hbus, if_pos ⟨hbelow, habove⟩]

/-! ## STATUS bit by bit (R96) -/

/-- A field of width `w` placed at bit `p` of a word holds its own bits there and 0 elsewhere. -/
theorem getLsbD_field {w : Nat} (x : BitVec w) (p k : Nat) (h : p + w ≤ 32) :
    (x.setWidth 32 <<< p).getLsbD k = (decide (p ≤ k) && x.getLsbD (k - p)) := by
  rw [BitVec.getLsbD_shiftLeft, BitVec.getLsbD_setWidth]
  by_cases hp : p ≤ k
  · by_cases hk : k - p < w
    · simp [hp, Nat.not_lt_of_le hp, show k < 32 by omega, show k - p < 32 by omega]
    · simp [BitVec.getLsbD_of_ge x (k - p) (by omega)]
  · simp [hp, Nat.lt_of_not_le hp]

theorem Status.getLsbD_read (st : Status) (k : Nat) : st.read.getLsbD k =
    ((BitVec.ofBool st.busy).getLsbD k || (decide (1 ≤ k) && (BitVec.ofBool st.done).getLsbD (k - 1)) ||
      (decide (2 ≤ k) && (BitVec.ofBool st.err).getLsbD (k - 2)) ||
      (decide (3 ≤ k) && (BitVec.ofBool st.busyErr).getLsbD (k - 3)) ||
      (decide (4 ≤ k) && st.errCode.getLsbD (k - 4)) || (decide (8 ≤ k) && st.l3path.getLsbD (k - 8))) := by
  have hbusy := getLsbD_field (BitVec.ofBool st.busy) 0 k (by omega)
  rw [BitVec.shiftLeft_zero, Nat.sub_zero, decide_eq_true (Nat.zero_le k), Bool.true_and] at hbusy
  simp only [Status.read, BitVec.getLsbD_or, hbusy]
  rw [getLsbD_field _ 1 k (by omega), getLsbD_field _ 2 k (by omega), getLsbD_field _ 3 k (by omega),
    getLsbD_field _ 4 k (by omega), getLsbD_field _ 8 k (by omega)]

theorem Status.extractLsb'_read_errCode (st : Status) : st.read.extractLsb' 4 4 = st.errCode := by
  apply BitVec.eq_of_getLsbD_eq
  intro k hk
  rw [BitVec.getLsbD_extractLsb', Status.getLsbD_read]
  interval_cases k <;> simp

theorem Status.extractLsb'_read_l3path (st : Status) : st.read.extractLsb' 8 2 = st.l3path := by
  apply BitVec.eq_of_getLsbD_eq
  intro k hk
  rw [BitVec.getLsbD_extractLsb', Status.getLsbD_read]
  interval_cases k <;> simp

theorem Status.getLsbD_read_high (st : Status) (k : Nat) (h : 10 ≤ k) : st.read.getLsbD k = false := by
  have hlow (b : Bool) (j : Nat) (hj : 1 ≤ j) : (BitVec.ofBool b).getLsbD j = false := BitVec.getLsbD_of_ge _ _ hj
  rw [Status.getLsbD_read, hlow _ _ (by omega), hlow _ _ (by omega), hlow _ _ (by omega), hlow _ _ (by omega),
    BitVec.getLsbD_of_ge _ _ (by omega), BitVec.getLsbD_of_ge _ _ (by omega)]
  simp

end Sys2Proof.Machine
end

/-! ## The statements -/

section
namespace Sys2Proof.Proofs.Encoding

open Sys2Proof Sys2Proof.Machine Sys2Proof.Claims Sys2Proof.Laws

/-- Settles O1: the round trip of each row of the table. -/
theorem decodeEncodeAgree : Obligations.DecodeEncodeAgree := by
  intro i busy hform hoccurs
  suffices h : RoundTrip.Statement i from h hform busy hoccurs
  cases i with
  | pearson ie => exact RoundTrip.pearson ie
  | crc32t ie => exact RoundTrip.crc32t ie
  | crc32b ie => exact RoundTrip.crc32b ie
  | sdbm ie => exact RoundTrip.sdbm ie
  | fnv1a ie => exact RoundTrip.fnv1a ie
  | oat ie => exact RoundTrip.oat ie
  | lookup3 ie => exact RoundTrip.lookup3 ie
  | md5 ie => exact RoundTrip.md5 ie
  | reservedOp0 ie => exact RoundTrip.reservedOp0 ie
  | reservedOp9 ie => exact RoundTrip.reservedOp9 ie
  | reservedOpA ie => exact RoundTrip.reservedOpA ie
  | reservedOpB ie => exact RoundTrip.reservedOpB ie
  | reservedOpC ie => exact RoundTrip.reservedOpC ie
  | reservedOpD ie => exact RoundTrip.reservedOpD ie
  | reservedOpE ie => exact RoundTrip.reservedOpE ie
  | reservedOpF ie => exact RoundTrip.reservedOpF ie
  | wrCtrl v => exact RoundTrip.wrCtrl v
  | startAccept v => exact RoundTrip.startAccept v
  | startDrop v => exact RoundTrip.startDrop v
  | rdCtrl => exact RoundTrip.rdCtrl
  | wrStatus v => exact RoundTrip.wrStatus v
  | rdStatus => exact RoundTrip.rdStatus
  | wrSrc v => exact RoundTrip.wrSrc v
  | wrLen v => exact RoundTrip.wrLen v
  | wrSeed v => exact RoundTrip.wrSeed v
  | wrTbl v => exact RoundTrip.wrTbl v
  | rdSrc => exact RoundTrip.rdSrc
  | rdLen => exact RoundTrip.rdLen
  | rdSeed => exact RoundTrip.rdSeed
  | rdTbl => exact RoundTrip.rdTbl
  | rdErrAddr => exact RoundTrip.rdErrAddr
  | rdResult0 => exact RoundTrip.rdResult0
  | rdResult1 => exact RoundTrip.rdResult1
  | rdResult2 => exact RoundTrip.rdResult2
  | rdResult3 => exact RoundTrip.rdResult3
  | wrRoErrAddr v => exact RoundTrip.wrRoErrAddr v
  | wrRoResult0 v => exact RoundTrip.wrRoResult0 v
  | wrRoResult1 v => exact RoundTrip.wrRoResult1 v
  | wrRoResult2 v => exact RoundTrip.wrRoResult2 v
  | wrRoResult3 v => exact RoundTrip.wrRoResult3 v
  | rdRes1C => exact RoundTrip.rdRes1C
  | wrRes1C v => exact RoundTrip.wrRes1C v
  | rdRes30 => exact RoundTrip.rdRes30
  | wrRes30 v => exact RoundTrip.wrRes30 v
  | rdRes34 => exact RoundTrip.rdRes34
  | wrRes34 v => exact RoundTrip.wrRes34 v
  | rdRes38 => exact RoundTrip.rdRes38
  | wrRes38 v => exact RoundTrip.wrRes38 v
  | rdRes3C => exact RoundTrip.rdRes3C
  | wrRes3C v => exact RoundTrip.wrRes3C v

/-- Settles O2: no packet of a slot access loses a bit, by the inversion of the decoder. -/
theorem encodeDecodeAgreeOnBus : Obligations.EncodeDecodeAgreeOnBus := by
  intro busy packet i hlen h
  cases decoded_of_decode h with
  | read slot => exact encode_decodeRead slot
  | command v => exact absurd rfl hlen
  | write slot v => exact encode_decodeWrite busy v slot

/-- Settles O3: the inversion of the decoder names the three kinds of instruction it answers. -/
theorem decodedIsWellFormed : Obligations.DecodedIsWellFormed := fun _ _ _ h => (decoded_of_decode h).wellFormed

/-- Settles O4: the mask keeps OP and START (`and_mask_eq_iff`), and START alone tells a command from WR.CTRL. -/
theorem commandMatchAndMask : Obligations.CommandMatchAndMask := by
  intro busy v
  rw [decode_leBytes]
  refine ⟨fun n => ?command, ?wrCtrl⟩
  case command =>
    rw [and_mask_eq_iff, Except.ok.injEq]
    constructor
    · rintro ⟨hstart, rfl⟩
      exact decodeCommand_start hstart
    · intro h
      cases hstart : v.getLsbD 0 with
      | true => rw [decodeCommand_start hstart] at h; exact ⟨rfl, commandOf_op_injective _ _ _ h⟩
      | false => rw [decodeCommand_noStart hstart] at h; exact absurd h.symm (commandOf_ne_wrCtrl _ _ _)
  case wrCtrl =>
    rw [Except.ok.injEq]
    refine ⟨decodeCommand_noStart, fun h => Bool.eq_false_iff.mpr fun hstart => ?_⟩
    rw [decodeCommand_start hstart] at h
    exact commandOf_ne_wrCtrl _ _ _ h

/-- Settles O5: the decoder evaluates on each of the twelve packets. -/
theorem specWordsDecode : Obligations.SpecWordsDecode := by
  refine ⟨?_, ?_, ?_, ?_, ?_, ?_, ?_, ?_, ?_, ?_, ?_, ?_⟩ <;> rfl

/-- Settles O6: `step_txn`, for the packet that is first in the inbox. -/
theorem stepRunsDecodedInstruction : Obligations.StepRunsDecodedInstruction := by
  intro s packet rest i hinbox hdecode
  have hs : s = { s with inbox := .txn packet :: rest } := by rw [← hinbox]
  rw [hs]
  exact step_txn s rest hdecode

/-- Settles O7: the admission of R90 answers the packet of the slot. -/
theorem admittedAccessIsTransaction : Obligations.AdmittedAccessIsTransaction := by
  intro s n data rest
  constructor
  · intro hinbox
    rw [step_of_inbox_cons hinbox]
    exact hostAccess_read (s.setInbox rest) n data
  · intro hinbox
    rw [step_of_inbox_cons hinbox]
    exact hostAccess_write (s.setInbox rest) n data

/-- Settles O8: such an access is rejected, and a rejected access touches the recorded faults and the value read only. -/
theorem otherBlockAccessIsBusAccess : Obligations.OtherBlockAccessIsBusAccess := by
  intro s write addr width data rest hinbox hbelow habove hother
  refine ⟨(s.setInbox rest).rejectAccess write, ?_, ?_⟩
  · rw [step_of_inbox_cons hinbox]
    exact hostAccess_rejected hbelow habove hother
  · cases write with
    | true => exact ⟨rfl, rfl, rfl, rfl, rfl, rfl, rfl, rfl, fun _ => rfl⟩
    | false => exact ⟨rfl, rfl, rfl, rfl, rfl, rfl, rfl, rfl, fun h => by cases h⟩

/-- Settles O12: a command and START.ACCEPT are both `startCommand`, which looks at BUSY. -/
theorem commandIsCtrlWrite : Obligations.CommandIsCtrlWrite := by
  intro s v hstart
  rw [decodeCommand_start hstart, exec_commandOf]
  exact ⟨fun _ => rfl, fun hbusy => congrArg _ (startCommand_busy s _ _ hbusy)⟩

/-- Settles O15: the value read is `Status.read`, known bit by bit. -/
theorem rdStatusReturnsFields : Obligations.RdStatusReturnsFields := by
  intro s
  refine ⟨s.regs.status.read, transacts_read s .status, ?_, ?_, ?_, ?_, Status.extractLsb'_read_errCode _,
    Status.extractLsb'_read_l3path _, Status.getLsbD_read_high _⟩
  all_goals rw [Status.getLsbD_read]; simp

/-- Settles O18: a read returns the slot of the register block. -/
theorem rdErrAddrAndResults : Obligations.RdErrAddrAndResults := fun s =>
  ⟨transacts_read s .errAddr, transacts_read s .result0, transacts_read s .result1, transacts_read s .result2,
    transacts_read s .result3⟩

end Sys2Proof.Proofs.Encoding
end

/-! # The invariant and the rules over every step (spec/10_state.md, spec/60_exceptions.md, spec/70_reset_and_hazards.md) -/

/-! ## The engine's turn, and what a step does by the event it takes -/

section
namespace Sys2Proof.Machine

open Sys2Proof.Claims

/-- The state without the event that the step takes is the state itself when there is none. -/
theorem setInbox_tail_of_nil {s : State} (h : s.inbox = []) : s.setInbox s.inbox.tail = s := by
  rw [h, List.tail_nil, ← h]; rfl

/-- When the engine has the next turn, a step is its turn (log 2). -/
theorem step_of_engineMoves {s : State} (h : EngineMoves s) : step s = (s.setInbox s.inbox.tail).engineTurn := by
  obtain hnil | ⟨rest, hrest⟩ := h
  · rw [setInbox_tail_of_nil hnil, step, State.advance, hnil]
  · rw [step_of_inbox_cons hrest, hrest]; rfl

theorem engineTurn_busy {s : State} (h : s.regs.status.busy = true) : s.engineTurn = s.complete := if_pos h

theorem engineTurn_idle {s : State} (h : s.regs.status.busy = false) : s.engineTurn = .next s :=
  if_neg (by rw [h]; exact Bool.false_ne_true)

/-- With an operation in flight the engine's turn is its completion (60_exceptions.md R220). -/
theorem step_of_engineMoves_busy {s : State} (h : EngineMoves s) (hb : s.regs.status.busy = true) :
    step s = (s.setInbox s.inbox.tail).complete :=
  (step_of_engineMoves h).trans (engineTurn_busy hb)

/-- Every completion ends the operation with DONE set, and leaves CTRL (R221, R222). -/
theorem complete_next_status {s t : State} (h : s.complete = .next t) :
    t.regs.status.busy = false ∧ t.regs.status.done = true ∧ t.regs.ctrl = s.regs.ctrl := by
  obtain ⟨_, rfl⟩ | ⟨op, e, _, _, rfl⟩ | ⟨op, _, _, _, rfl⟩ := complete_next s t h
  · exact ⟨rfl, rfl, rfl⟩
  · rw [completeError_eq]; exact ⟨rfl, rfl, rfl⟩
  · exact ⟨rfl, rfl, rfl⟩

/-- What a transaction does to CTRL and STATUS, by the instruction it is (spec/40_register_access.md). -/
inductive ExecEffect (s : State) : Instr → State → Prop where
  | command (op : BitVec 4) (ie : Bool) : ExecEffect s (commandOf op ie) (s.startCommand ie op)
  | startAccept (v : Word) : ExecEffect s (.startAccept v) (s.startCommand (ctrlIe v) (ctrlOp v))
  | startDrop (v : Word) : ExecEffect s (.startDrop v) (s.startCommand (ctrlIe v) (ctrlOp v))
  | wrCtrl (v : Word) : ExecEffect s (.wrCtrl v) (s.writeCtrl v)
  | wrStatus (v : Word) : ExecEffect s (.wrStatus v) (s.acknowledge v)
  | other (i : Instr) (t : State) (hctrl : t.regs.ctrl = s.regs.ctrl) (hstatus : t.regs.status = s.regs.status) :
      ExecEffect s i t

theorem exec_execEffect {i : Instr} {s t : State} (h : exec i s = .next t) : ExecEffect s i t := by
  cases i <;> cases h
  case pearson ie => exact .command 0x1 ie
  case crc32t ie => exact .command 0x2 ie
  case crc32b ie => exact .command 0x3 ie
  case sdbm ie => exact .command 0x4 ie
  case fnv1a ie => exact .command 0x5 ie
  case oat ie => exact .command 0x6 ie
  case lookup3 ie => exact .command 0x7 ie
  case md5 ie => exact .command 0x8 ie
  case reservedOp0 ie => exact .command 0x0 ie
  case reservedOp9 ie => exact .command 0x9 ie
  case reservedOpA ie => exact .command 0xA ie
  case reservedOpB ie => exact .command 0xB ie
  case reservedOpC ie => exact .command 0xC ie
  case reservedOpD ie => exact .command 0xD ie
  case reservedOpE ie => exact .command 0xE ie
  case reservedOpF ie => exact .command 0xF ie
  case startAccept v => exact .startAccept v
  case startDrop v => exact .startDrop v
  case wrCtrl v => exact .wrCtrl v
  case wrStatus v => exact .wrStatus v
  all_goals exact .other _ _ rfl rfl

/-- Everything a step can do, by the event it takes from the inbox. -/
inductive StepCase (s t : State) : Prop where
  | completion (hmoves : EngineMoves s) (hb : s.regs.status.busy = true)
      (ht : (s.setInbox s.inbox.tail).complete = .next t)
  | reset (rest : List Event) (h : s.inbox = .reset :: rest) (ht : t = (s.setInbox s.inbox.tail).resetCore)
  | store (a : Nat) (b : Byte) (rest : List Event) (h : s.inbox = .store a b :: rest)
      (ht : t = (s.setInbox s.inbox.tail).hostStore a b)
  | transaction (i : Instr) (hform : wellFormed i = true) (hoccurs : occursWhen s.regs.status.busy i = true)
      (hstep : step s = exec i (s.setInbox s.inbox.tail)) (ht : exec i (s.setInbox s.inbox.tail) = .next t)
  | rejected (write : Bool) (ht : t = (s.setInbox s.inbox.tail).rejectAccess write)
  | nothing (ht : t = s.setInbox s.inbox.tail)

theorem stepCase_of_engineMoves {s t : State} (hmoves : EngineMoves s) (h : step s = .next t) : StepCase s t := by
  cases hb : s.regs.status.busy with
  | true => exact .completion hmoves hb ((step_of_engineMoves_busy hmoves hb).symm.trans h)
  | false =>
    rw [step_of_engineMoves hmoves, engineTurn_idle (s := s.setInbox s.inbox.tail) hb] at h
    cases h
    exact .nothing rfl

/-- Two of the cases, for a packet: it is executed, or it is no BUS transaction. -/
theorem stepCase_of_transact {s t : State} {packet : List Byte}
    (hstep : step s = (s.setInbox s.inbox.tail).transact packet)
    (ht : (s.setInbox s.inbox.tail).transact packet = .next t) : StepCase s t := by
  unfold State.transact at ht hstep
  split at ht
  · next i hd =>
    rw [hd] at hstep
    obtain ⟨hform, hoccurs⟩ := (decoded_of_decode hd).wellFormed
    exact .transaction i hform hoccurs hstep ht
  · cases ht; exact .rejected _ rfl
  · cases ht
  · cases ht

theorem stepCase_of_step {s t : State} (h : step s = .next t) : StepCase s t := by
  cases hinbox : s.inbox with
  | nil => exact stepCase_of_engineMoves (.inl hinbox) h
  | cons e rest =>
    have hstep : step s = (s.setInbox s.inbox.tail).onEvent e := by rw [step_of_inbox_cons hinbox, hinbox]; rfl
    have ht := hstep.symm.trans h
    cases e with
    | txn packet => exact stepCase_of_transact hstep ht
    | access write addr width data =>
      simp only [State.onEvent, State.hostAccess] at hstep ht
      split at ht
      · next packet hpacket => rw [hpacket] at hstep; exact stepCase_of_transact hstep ht
      · cases ht; exact .rejected write rfl
      · cases ht; exact .nothing rfl
    | store a b =>
      simp only [State.onEvent, State.storeEvent] at ht
      split at ht
      · cases ht; exact .store a b rest hinbox rfl
      · cases ht
    | engine => exact stepCase_of_engineMoves (.inr ⟨rest, hinbox⟩) h
    | reset => cases ht; exact .reset rest hinbox rfl

theorem rejectAccess_regs (s : State) (write : Bool) : (s.rejectAccess write).regs = s.regs := by
  cases write <;> rfl

theorem rejectAccess_mem (s : State) (write : Bool) : (s.rejectAccess write).mem = s.mem := by
  cases write <;> rfl

theorem step_inbox {s t : State} (h : step s = .next t) : t.inbox = s.inbox.tail :=
  have ⟨_, hinbox, _, _⟩ := eventEffect_keeps (step_effect s t h)
  hinbox

/-! ## The invariant -/

/-- The invariant speaks of memory, STATUS, ERRADDR, lop and the race only. -/
theorem Inv.congr {s t : State} (hs : Inv s) (hmem : t.mem = s.mem) (hstatus : t.regs.status = s.regs.status)
    (haddr : t.regs.errAddr = s.regs.errAddr) (hop : t.latched.op = s.latched.op) (hraced : t.raced = s.raced)
    (hrace : t.faults.footprintRace = s.faults.footprintRace) : Inv t where
  memory := hmem ▸ hs.memory
  busyClear := by rw [hstatus]; exact hs.busyClear
  codeDefined := by rw [hstatus]; exact hs.codeDefined
  errHasCode := by rw [hstatus]; exact hs.errHasCode
  pathMeansLookup3 := by rw [hstatus, hop]; exact hs.pathMeansLookup3
  addressMeansBusError := by rw [haddr, hstatus]; exact hs.addressMeansBusError
  racedRecorded := by rw [hraced, hstatus, hrace]; exact hs.racedRecorded

theorem inv_setInbox {s : State} (h : Inv s) (es : List Event) : Inv (s.setInbox es) :=
  h.congr rfl rfl rfl rfl rfl rfl

/-- In flight ERRADDR is 0: it holds an address only beside the code of BUS_ERROR, and BUSY excludes every code. -/
theorem Inv.errAddr_of_busy {s : State} (h : Inv s) (hb : s.regs.status.busy = true) : s.regs.errAddr = 0 := by
  obtain ⟨_, _, hcode, _⟩ := h.busyClear hb
  by_contra haddr
  exact absurd (hcode.symm.trans (h.addressMeansBusError haddr)) (by decide)

theorem inv_dropStart {s : State} (h : Inv s) : Inv s.dropStart :=
  ⟨h.memory, h.busyClear, h.codeDefined, h.errHasCode, h.pathMeansLookup3, h.addressMeansBusError, h.racedRecorded⟩

/-- A block with no outcome in STATUS and ERRADDR meets the invariant beside any canonical memory. -/
theorem inv_of_noOutcome {s : State} (hmem : Memory.wf s.mem) (hdone : s.regs.status.done = false)
    (herr : s.regs.status.err = false) (hcode : s.regs.status.errCode = 0) (hpath : s.regs.status.l3path = 0)
    (haddr : s.regs.errAddr = 0) (hraced : s.raced = false) : Inv s where
  memory := hmem
  busyClear := fun _ => ⟨hdone, herr, hcode, hpath⟩
  codeDefined := by rw [hcode]; decide
  errHasCode := fun h => by rw [herr] at h; cases h
  pathMeansLookup3 := fun h => absurd hpath h
  addressMeansBusError := fun h => absurd haddr h
  racedRecorded := fun h => by rw [hraced] at h; cases h

theorem inv_startCommand {s : State} (h : Inv s) (ie : Bool) (op : BitVec 4) : Inv (s.startCommand ie op) := by
  cases hb : s.regs.status.busy with
  | true => rw [startCommand_busy s ie op hb]; exact inv_dropStart h
  | false => rw [startCommand_idle s ie op hb]; exact inv_of_noOutcome h.memory rfl rfl rfl rfl rfl rfl

/-- The acknowledgement clears flags, and every clause but that on the code of an error asks for cleared ones (R95). -/
theorem inv_acknowledge {s : State} (h : Inv s) (v : Word) : Inv (s.acknowledge v) where
  memory := h.memory
  busyClear := fun hb => by
    obtain ⟨hdone, herr, hcode, hpath⟩ := h.busyClear hb
    exact ⟨by simp [State.acknowledge, hdone], by simp [State.acknowledge, herr], hcode, hpath⟩
  codeDefined := h.codeDefined
  errHasCode := fun herr => h.errHasCode (Bool.and_eq_true_iff.mp herr).1
  pathMeansLookup3 := h.pathMeansLookup3
  addressMeansBusError := h.addressMeansBusError
  racedRecorded := h.racedRecorded

theorem inv_hostEffect {s t : State} (h : Inv s) (he : HostEffect s t) : Inv t := by
  cases he with
  | start ie op => exact inv_startCommand h ie op
  | acknowledge v => exact inv_acknowledge h v
  | writeCtrl v | setSrc v | setLen v | setSeed v | setTbl v | read slot => exact h.congr rfl rfl rfl rfl rfl rfl
  | ignored => exact h

theorem inv_rejectAccess {s : State} (h : Inv s) (write : Bool) : Inv (s.rejectAccess write) := by
  cases write <;> exact h.congr rfl rfl rfl rfl rfl rfl

/-- A store keeps memory canonical, and sets `raced` only in flight and on record (20_memory.md R61). -/
theorem inv_hostStore {s : State} (h : Inv s) {a : Nat} (ha : a < addressSpace) (b : Byte) : Inv (s.hostStore a b) := by
  obtain ⟨hlatched, _⟩ := hostStore_keeps s a b
  refine ⟨?memory, ?_, ?_, ?_, ?_, ?_, ?raced⟩
  case memory => rw [hostStore_mem]; exact memWrite_wf s.mem a b ha h.memory
  case raced =>
    rw [hostStore_raced, hostStore_regs, hostStore_faults, Bool.or_eq_true]
    rintro (hrace | hraced)
    · exact ⟨(Bool.and_eq_true_iff.mp hrace).1, by simp [hrace]⟩
    · obtain ⟨hb, hrec⟩ := h.racedRecorded hraced
      exact ⟨hb, by simp [hrec]⟩
  all_goals rw [hostStore_regs]
  · exact h.busyClear
  · exact h.codeDefined
  · exact h.errHasCode
  · rw [hlatched]; exact h.pathMeansLookup3
  · exact h.addressMeansBusError

theorem HashError.code_le (e : HashError) : e.code.toNat ≤ 4 := by
  cases e <;> simp [HashError.code]

theorem HashError.code_ne_zero (e : HashError) : e.code ≠ 0 := by
  cases e <;> simp [HashError.code]

/-- An error completion writes its code, and ERRADDR for BUS_ERROR only; in flight ERRADDR and L3PATH were 0 (R222). -/
theorem inv_completeError {s : State} (h : Inv s) (hb : s.regs.status.busy = true) (e : HashError) :
    Inv (s.completeError e) := by
  obtain ⟨_, _, _, hpath⟩ := h.busyClear hb
  have haddr := h.errAddr_of_busy hb
  rw [completeError_eq]
  refine ⟨h.memory, fun hbusy => ?_, e.code_le, fun _ => e.code_ne_zero, fun hp => absurd hpath hp, fun ha => ?_,
    fun hr => ?_⟩
  · cases hbusy
  · cases e with
    | busError a => rfl
    | illegalOp | precond | capacity => exact absurd haddr ha
  · cases hr

theorem op_eq_seven {l : Latched} (h : opOfBits l.op = some .lookup3) : l.op = 7 := by
  revert h; generalize l.op = op; revert op; decide

/-- A success writes L3PATH for LOOKUP3 only and leaves the rest of what BUSY had cleared (R221). -/
theorem inv_completeSuccess {s : State} (h : Inv s) (hb : s.regs.status.busy = true) {op : Op}
    (ho : opOfBits s.latched.op = some op) : Inv (s.completeSuccess op) := by
  obtain ⟨_, herr, hcode, hpath⟩ := h.busyClear hb
  have haddr := h.errAddr_of_busy hb
  rw [completeSuccess_eq]
  refine ⟨h.memory, fun hbusy => ?_, h.codeDefined, h.errHasCode, fun hp => ⟨?_, hcode⟩, h.addressMeansBusError,
    fun hr => ?_⟩
  · cases hbusy
  · by_cases hop : op = .lookup3
    · subst hop; exact op_eq_seven ho
    · simp only [State.opPath, if_neg hop, Status.onSuccess_l3path, Option.getD_none] at hp
      exact absurd hpath hp
  · cases hr

theorem inv_eventEffect {s t : State} (h : Inv s) (he : EventEffect s t) : Inv t := by
  cases he with
  | host ht => exact inv_hostEffect h ht
  | rejected write => exact inv_rejectAccess h write
  | store a b ha => exact inv_hostStore h ha b
  | nothing => exact h
  | error e hb _ => exact inv_completeError h hb e
  | success op hb ho _ => exact inv_completeSuccess h hb ho
  | reset => exact inv_of_noOutcome h.memory rfl rfl rfl rfl rfl rfl

theorem inv_resetWith (p : Params) : Inv (State.resetWith p) :=
  inv_of_noOutcome ⟨List.Pairwise.nil, by simp [State.resetWith]⟩ rfl rfl rfl rfl rfl rfl

/-! ## What a step changes -/

theorem step_store {s t : State} {a : Nat} {b : Byte} {rest : List Event} (hinbox : s.inbox = .store a b :: rest)
    (h : step s = .next t) : t = (s.setInbox rest).hostStore a b := by
  rw [step_of_inbox_cons hinbox, State.onEvent, State.storeEvent] at h
  split at h
  · cases h; rfl
  · cases h

/-- Memory changes by the host store that the step takes, and by nothing else (20_memory.md R50). -/
theorem step_mem {s t : State} (h : step s = .next t) :
    (∃ a b rest, s.inbox = .store a b :: rest ∧ t.mem = memWrite s.mem a b) ∨ t.mem = s.mem := by
  cases stepCase_of_step h with
  | completion _ _ ht =>
    obtain ⟨_, rfl⟩ | ⟨op, e, _, _, rfl⟩ | ⟨op, _, _, _, rfl⟩ := complete_next _ t ht
    · exact .inr rfl
    · rw [completeError_eq]; exact .inr rfl
    · exact .inr rfl
  | reset rest _ ht => subst ht; exact .inr rfl
  | store a b rest hinbox ht => subst ht; exact .inl ⟨a, b, rest, hinbox, hostStore_mem _ a b⟩
  | transaction i _ _ _ ht =>
    obtain ⟨u, hu, he⟩ := exec_effect i (s.setInbox s.inbox.tail)
    cases hu.symm.trans ht
    exact .inr (hostEffect_keeps he).1
  | rejected write ht => subst ht; exact .inr (rejectAccess_mem _ write)
  | nothing ht => subst ht; exact .inr rfl

theorem startCommand_status_busy (s : State) (ie : Bool) (op : BitVec 4) :
    (s.startCommand ie op).regs.status.busy = true := by
  cases hb : s.regs.status.busy with
  | true => rw [startCommand_busy s ie op hb]; exact hb
  | false => rw [startCommand_idle s ie op hb]; rfl

/-- No transaction clears BUSY. -/
theorem hostEffect_keeps_busy {s t : State} (h : HostEffect s t) (hb : s.regs.status.busy = true) :
    t.regs.status.busy = true := by
  cases h with
  | start ie op => exact startCommand_status_busy s ie op
  | writeCtrl v | acknowledge v | setSrc v | setLen v | setSeed v | setTbl v | read slot | ignored => exact hb

/-- BUSY is cleared by the engine's turn or a reset, and by nothing else (60_exceptions.md R220, 10_state.md R33). -/
theorem step_clears_busy {s t : State} (h : step s = .next t) (hb : s.regs.status.busy = true) :
    t.regs.status.busy = true ∨
      s.inbox = [] ∨ ∃ rest, s.inbox = .engine :: rest ∨ s.inbox = .reset :: rest := by
  cases stepCase_of_step h with
  | completion hmoves _ _ => exact .inr (hmoves.imp_right fun ⟨rest, hrest⟩ => ⟨rest, .inl hrest⟩)
  | reset rest hinbox _ => exact .inr (.inr ⟨rest, .inr hinbox⟩)
  | store a b _ _ ht => rw [ht, hostStore_regs]; exact .inl hb
  | transaction i _ _ _ ht =>
    obtain ⟨u, hu, he⟩ := exec_effect i (s.setInbox s.inbox.tail)
    cases hu.symm.trans ht
    exact .inl (hostEffect_keeps_busy he hb)
  | rejected write ht => rw [ht, rejectAccess_regs]; exact .inl hb
  | nothing ht => rw [ht]; exact .inl hb

/-- BUSY is set by START.ACCEPT or a command, and by nothing else (R33). -/
theorem step_sets_busy {s t : State} (h : step s = .next t) (hb : s.regs.status.busy = false)
    (hset : t.regs.status.busy = true) : ∃ i, wellFormed i = true ∧ step s = exec i (s.setInbox s.inbox.tail) ∧
      ((∃ v, i = .startAccept v) ∨ ∃ op ie, i = commandOf op ie) := by
  have changed : t.regs.status.busy ≠ s.regs.status.busy := by rw [hb, hset]; exact Bool.false_ne_true.symm
  cases stepCase_of_step h with
  | completion _ hb' _ => exact absurd (hb.symm.trans hb') Bool.false_ne_true
  | reset _ _ ht => rw [ht] at hset; cases hset
  | store a b _ _ ht => rw [ht, hostStore_regs] at changed; exact absurd rfl changed
  | transaction i hform hoccurs hstep ht =>
    refine ⟨i, hform, hstep, ?_⟩
    cases exec_execEffect ht with
    | command op ie => exact .inr ⟨op, ie, rfl⟩
    | startAccept v => exact .inl ⟨v, rfl⟩
    | startDrop v => exact absurd (hb.symm.trans hoccurs) Bool.false_ne_true
    | wrCtrl v | wrStatus v => exact absurd rfl changed
    | other _ _ _ hstatus => rw [hstatus] at changed; exact absurd rfl changed
  | rejected write ht => rw [ht, rejectAccess_regs] at changed; exact absurd rfl changed
  | nothing ht => rw [ht] at changed; exact absurd rfl changed

/-- The four words of the RESULT registers (10_state.md R29). -/
def RegBlock.results (r : RegBlock) : Digest := ⟨r.result0, r.result1, r.result2, r.result3⟩

/-- No transaction writes a RESULT register (40_register_access.md R110). -/
theorem hostEffect_keeps_results {s t : State} (h : HostEffect s t) : t.regs.results = s.regs.results := by
  cases h with
  | start ie op => unfold State.startCommand; split <;> rfl
  | writeCtrl v | acknowledge v | setSrc v | setLen v | setSeed v | setTbl v | read slot | ignored => rfl

/-- RESULT0..3 change by a completion or by a reset, and by nothing else (R29, R227). -/
theorem step_results {s t : State} (h : step s = .next t) :
    t.regs.results = s.regs.results ∨ (s.regs.status.busy = true ∧ EngineMoves s ∧ t.regs.status.done = true) ∨
      ∃ rest, s.inbox = .reset :: rest := by
  cases stepCase_of_step h with
  | completion hmoves hb ht =>
    obtain ⟨_, hdone, _⟩ := complete_next_status ht
    exact .inr (.inl ⟨hb, hmoves, hdone⟩)
  | reset rest hinbox _ => exact .inr (.inr ⟨rest, hinbox⟩)
  | store a b _ _ ht => subst ht; exact .inl (congrArg RegBlock.results (hostStore_regs _ a b))
  | transaction i _ _ _ ht =>
    obtain ⟨u, hu, he⟩ := exec_effect i (s.setInbox s.inbox.tail)
    cases hu.symm.trans ht
    exact .inl (hostEffect_keeps_results (s := s.setInbox s.inbox.tail) he)
  | rejected write ht => subst ht; exact .inl (congrArg RegBlock.results (rejectAccess_regs _ write))
  | nothing ht => subst ht; exact .inl rfl

/-! ## Runs -/

/-- A run of one step more is a step and then a run, on any machine. -/
theorem run_succ {M : Host.Core} {k : Nat} {s t : M.State} (h : M.run (k + 1) s = .next t) :
    ∃ u, M.step s = .next u ∧ M.run k u = .next t := by
  rw [Host.Core.run] at h
  split at h
  · next u hu => exact ⟨u, hu, h⟩
  · cases h
  · cases h

/-- After the engine's turn no operation is in flight. -/
theorem step_engineMoves_idle {s t : State} (hmoves : EngineMoves s) (h : step s = .next t) :
    t.regs.status.busy = false := by
  cases hb : s.regs.status.busy with
  | true => exact (complete_next_status ((step_of_engineMoves_busy hmoves hb).symm.trans h)).1
  | false =>
    rw [step_of_engineMoves hmoves, engineTurn_idle (s := s.setInbox s.inbox.tail) hb] at h
    cases h
    exact hb

/-! ## IRQ (60_exceptions.md R230) -/

theorem irq_eq (s : State) : s.irq = (s.regs.ctrl.ie && (s.regs.status.done || s.regs.status.err)) := rfl

/-- IRQ is a function of IE, DONE and ERR. -/
theorem irq_congr {s t : State} (hie : t.regs.ctrl.ie = s.regs.ctrl.ie) (hdone : t.regs.status.done = s.regs.status.done)
    (herr : t.regs.status.err = s.regs.status.err) : t.irq = s.irq := by
  rw [irq_eq, irq_eq, hie, hdone, herr]

theorem irq_of_outcome {s : State} (h : s.regs.status.done = true ∨ s.regs.status.err = true) :
    s.irq = s.regs.ctrl.ie := by
  obtain h | h := h <;> simp [irq_eq, h]

theorem irq_of_ie_false {s : State} (h : s.regs.ctrl.ie = false) : s.irq = false := by
  rw [irq_eq, h, Bool.false_and]

/-- After a completion IRQ is IE: DONE is set and CTRL is kept. -/
theorem irq_of_complete {s t : State} (h : s.complete = .next t) : t.irq = s.regs.ctrl.ie := by
  obtain ⟨_, hdone, hctrl⟩ := complete_next_status h
  rw [irq_of_outcome (.inl hdone), hctrl]

/-- The transactions that can take IRQ from high to low: a clearing WR.STATUS, a WR.CTRL with IE = 0, a START (R230). -/
def CanLowerIrq (i : Instr) : Prop :=
  (∃ v, i = .wrStatus v ∧ (v.getLsbD 1 = true ∨ v.getLsbD 2 = true)) ∨ (∃ v, i = .wrCtrl v ∧ v.getLsbD 1 = false) ∨
    (∃ v, i = .startAccept v) ∨ ∃ op ie, i = commandOf op ie

theorem execEffect_irq_falls {s t : State} {i : Instr} (h : ExecEffect s i t)
    (hoccurs : occursWhen s.regs.status.busy i = true) (hhigh : s.irq = true) (hlow : t.irq = false) : CanLowerIrq i := by
  have changed : t.irq ≠ s.irq := by rw [hhigh, hlow]; exact Bool.false_ne_true
  cases h with
  | command op ie => exact .inr (.inr (.inr ⟨op, ie, rfl⟩))
  | startAccept v => exact .inr (.inr (.inl ⟨v, rfl⟩))
  | startDrop v => rw [startCommand_busy s _ _ hoccurs] at changed; exact absurd rfl changed
  | wrCtrl v =>
    have houtcome : (s.regs.status.done || s.regs.status.err) = true := (Bool.and_eq_true_iff.mp hhigh).2
    have hie : (v.getLsbD 1 && (s.regs.status.done || s.regs.status.err)) = false := hlow
    rw [houtcome, Bool.and_true] at hie
    exact .inr (.inl ⟨v, rfl, hie⟩)
  | wrStatus v =>
    refine .inl ⟨v, rfl, ?_⟩
    by_contra hbits
    obtain ⟨hdone, herr⟩ := not_or.mp hbits
    have hsame : (s.acknowledge v).irq = s.irq := irq_congr rfl
      (by rw [State.acknowledge, State.setStatus_status, Status.w1c_eq, if_neg hdone])
      (by rw [State.acknowledge, State.setStatus_status, Status.w1c_eq, if_neg herr])
    exact changed hsame
  | other _ _ hctrl hstatus => exact absurd (irq_congr (by rw [hctrl]) (by rw [hstatus]) (by rw [hstatus])) changed

/-- A step that takes IRQ from high to low is a reset or such a transaction. -/
theorem step_irq_falls {s t : State} (h : step s = .next t) (hhigh : s.irq = true) (hlow : t.irq = false) :
    (∃ rest, s.inbox = .reset :: rest) ∨
      ∃ i, step s = exec i (s.setInbox s.inbox.tail) ∧ CanLowerIrq i := by
  have changed : t.regs ≠ s.regs := fun hregs => by
    have hsame : t.irq = s.irq := congrArg RegBlock.irq hregs
    rw [hhigh, hlow] at hsame
    cases hsame
  cases stepCase_of_step h with
  | completion _ _ ht =>
    have hie : s.regs.ctrl.ie = true := (Bool.and_eq_true_iff.mp hhigh).1
    exact absurd (hlow.symm.trans ((irq_of_complete ht).trans hie)) Bool.false_ne_true
  | reset rest hinbox _ => exact .inl ⟨rest, hinbox⟩
  | store a b _ _ ht => subst ht; exact absurd (hostStore_regs _ a b) changed
  | transaction i _ hoccurs hstep ht =>
    exact .inr ⟨i, hstep, execEffect_irq_falls (exec_execEffect ht) hoccurs hhigh hlow⟩
  | rejected write ht => subst ht; exact absurd (rejectAccess_regs _ write) changed
  | nothing ht => subst ht; exact absurd rfl changed

end Sys2Proof.Machine
end

/-! ## The statements -/

section
namespace Sys2Proof.Proofs.WholeMachine

open Sys2Proof Sys2Proof.Machine Sys2Proof.Claims

/-- Settles O39: each effect of an event keeps the invariant. -/
theorem stepKeepsInvariant : Obligations.StepKeepsInvariant := fun s t hinv h =>
  inv_eventEffect (inv_setInbox hinv _) (step_effect s t h)

/-- Settles O38: the zeroed block has no outcome, and memory is empty. -/
theorem invariantAtReset : Obligations.InvariantAtReset := ⟨inv_resetWith _, inv_resetWith⟩

/-- Settles O36: the block is `RegBlock.reset`. -/
theorem resetBlockReadsZero : Obligations.ResetBlockReadsZero := fun _ slot =>
  ⟨RegBlock.readSlot_reset slot, rfl, RegBlock.irq_reset, rfl⟩

/-- Settles O40: memory is written by the store the step takes (`step_mem`), and a write reads back. -/
theorem onlyHostStoresChangeMemory : Obligations.OnlyHostStoresChangeMemory := by
  intro s t x hwf h
  constructor
  · intro b rest hinbox
    rw [step_store hinbox h, hostStore_mem]
    exact memRead_memWrite_same s.mem hwf x b
  · intro hother
    obtain ⟨a, b, rest, hinbox, hmem⟩ | hmem := step_mem h
    · have hne : x ≠ a := fun hxa => hother b rest (hxa ▸ hinbox)
      rw [hmem]
      exact memRead_memWrite_other s.mem a x b hne
    · rw [hmem]

/-- Settles O41, by induction on the run. -/
theorem modelFaultsNeverCleared : Obligations.ModelFaultsNeverCleared := by
  intro s t hrun
  induction hrun with
  | refl => exact ⟨id, id, rfl⟩
  | tail _ hstep ih =>
    obtain ⟨hbus, hrace, hparams⟩ := ih
    obtain ⟨hparams', _, hbus', hrace'⟩ := eventEffect_keeps (step_effect _ _ hstep)
    exact ⟨fun h => hbus' (hbus h), fun h => hrace' (hrace h), hparams'.trans hparams⟩

/-- Settles O42: BUSY under each case of a step. -/
theorem busyChangesOnlyBy : Obligations.BusyChangesOnlyBy := by
  intro s t h
  constructor
  · intro hb hclear
    obtain hkept | hcause := step_clears_busy h hb
    · exact absurd (hclear.symm.trans hkept) Bool.false_ne_true
    · exact hcause
  · intro hb hset
    exact step_sets_busy h hb hset

/-- Settles O43: `step_results`, word by word. -/
theorem resultsChangeOnlyBy : Obligations.ResultsChangeOnlyBy := by
  intro s t h hchanged
  obtain hsame | hcause := step_results h
  · obtain ⟨h0, h1, h2, h3⟩ := Digest.mk.inj hsame
    obtain h | h | h | h := hchanged
    · exact absurd h0 h
    · exact absurd h1 h
    · exact absurd h2 h
    · exact absurd h3 h
  · exact hcause

/-- Settles O44: a completion sets DONE, WR.CTRL writes IE, and a dropped START touches neither. -/
theorem irqLevelAndRise : Obligations.IrqLevelAndRise := by
  refine ⟨irq_eq, fun s u hb hmoves h => ?_, fun s v _ houtcome => ?_, fun s v _ hb => ?_⟩
  · rw [step_of_engineMoves_busy hmoves hb] at h
    exact irq_of_complete (s := s.setInbox s.inbox.tail) h
  · exact ⟨s.writeCtrl v, rfl, irq_of_outcome houtcome⟩
  · exact ⟨s.dropStart, congrArg Host.Outcome.next (startCommand_busy s _ _ hb), rfl, rfl⟩

/-- Settles O45: the causes are those of `step_irq_falls`, and each lowers the level by clearing IE, or DONE and ERR. -/
theorem irqFallsOnlyBy : Obligations.IrqFallsOnlyBy := by
  refine ⟨fun s t hie houtcome h hlow => ?_, fun s v hdone herr => ?_, fun s v _ hie => ?_, fun s v _ hb => ?_,
    fun s rest hinbox => ?_⟩
  · exact step_irq_falls h ((irq_of_outcome houtcome).trans hie) hlow
  · exact ⟨s.acknowledge v, rfl, rfl, by simp [irq_eq, State.acknowledge, hdone, herr]⟩
  · exact ⟨s.writeCtrl v, rfl, rfl, irq_of_ie_false hie⟩
  · refine ⟨s.acceptStart _ _, congrArg Host.Outcome.next (startCommand_idle s _ _ hb), rfl, ?_⟩
    simp [irq_eq, acceptStart_eq]
  · exact ⟨_, step_of_inbox_cons hinbox, RegBlock.irq_reset⟩

/-- Settles O48, by induction on the inbox: every step takes one event, and the last is the engine's. -/
theorem idleWhenInboxIsSpent : Obligations.IdleWhenInboxIsSpent := by
  intro s t h
  generalize hn : s.inbox.length = n at h
  induction n generalizing s with
  | zero =>
    have hinbox : s.inbox = [] := List.length_eq_zero_iff.mp hn
    obtain ⟨u, hu, hrun⟩ := run_succ (M := Sys2Proof.core) h
    cases hrun
    have hspent := step_inbox hu
    rw [hinbox] at hspent
    exact ⟨hspent, step_engineMoves_idle (.inl hinbox) hu⟩
  | succ n ih =>
    obtain ⟨u, hu, hrun⟩ := run_succ (M := Sys2Proof.core) h
    exact ih u (by rw [step_inbox hu, List.length_tail, hn, Nat.add_sub_cancel]) hrun

/-- Settles O50: the step is the engine's turn, and that of an idle core answers the state. -/
theorem idleEngineHasNoStep : Obligations.IdleEngineHasNoStep := fun s hb hmoves =>
  (step_of_engineMoves hmoves).trans (engineTurn_idle (s := s.setInbox s.inbox.tail) hb)

end Sys2Proof.Proofs.WholeMachine
end

/-! # Completions (spec/60_exceptions.md, spec/20_memory.md): the checks, the error codes, what a completion depends on -/

/-! ## The footprint and the checks -/

section
namespace Sys2Proof.Machine

open Sys2Proof.Claims

/-- The footprint of R53 in one expression: the buffer, one byte longer for LOOKUP3, and the table of PEARSON and CRC32T. -/
theorem footprint_eq (op : Op) (l : Latched) : footprint op l =
    addresses l.src.toNat (if op = .lookup3 then l.len.toNat + 1 else l.len.toNat) ++
      (if op = .pearson then addresses l.tbl.toNat 256 else if op = .crc32t then addresses l.tbl.toNat 1024 else []) := by
  cases op <;> simp [footprint, footprintSegments, segmentAddrs, addresses]

theorem mem_addresses {base count a : Nat} : a ∈ addresses base count ↔ ∃ k < count, base + k = a := by
  simp [addresses]

/-- Every message byte is in the footprint. -/
theorem message_mem_footprint (op : Op) {l : Latched} {j : Nat} (h : j < l.len.toNat) :
    l.src.toNat + j ∈ footprint op l := by
  rw [footprint_eq]
  refine List.mem_append_left _ (mem_addresses.mpr ⟨j, ?_, rfl⟩)
  split <;> omega

theorem pearsonTable_mem_footprint {l : Latched} {k : Nat} (h : k < 256) : l.tbl.toNat + k ∈ footprint .pearson l := by
  rw [footprint_eq]
  exact List.mem_append_right _ (mem_addresses.mpr ⟨k, h, rfl⟩)

theorem crcTable_mem_footprint {l : Latched} {k : Nat} (h : k < 1024) : l.tbl.toNat + k ∈ footprint .crc32t l := by
  rw [footprint_eq]
  exact List.mem_append_right _ (mem_addresses.mpr ⟨k, h, rfl⟩)

theorem firstUnreadable_none {p : Params} {op : Op} {l : Latched} (h : ∀ a ∈ footprint op l, memReadable p a = true) :
    firstUnreadable p op l = none := by
  rw [firstUnreadable, List.find?_eq_none]
  intro a ha
  simp [h a ha]

/-- The first unreadable address is the one that splits the footprint with readable addresses only before it (R54). -/
theorem firstUnreadable_split {p : Params} {op : Op} {l : Latched} {a : Nat} {before after : List Nat}
    (hsplit : footprint op l = before ++ a :: after) (hbefore : ∀ x ∈ before, memReadable p x = true)
    (ha : memReadable p a = false) : firstUnreadable p op l = some a := by
  have hnone : before.find? (fun x => !memReadable p x) = none := by
    rw [List.find?_eq_none]
    intro x hx
    simp [hbefore x hx]
  rw [firstUnreadable, hsplit, List.find?_append, hnone, Option.none_or, List.find?_cons_of_pos (by simp [ha])]

theorem firstUnreadable_isSome {p : Params} {op : Op} {l : Latched} (h : ∃ a ∈ footprint op l, memReadable p a = false) :
    ∃ a, firstUnreadable p op l = some a := by
  rw [← Option.isSome_iff_exists, firstUnreadable, List.find?_isSome]
  obtain ⟨a, ha, hunreadable⟩ := h
  exact ⟨a, ha, by rw [hunreadable]; rfl⟩

/-- The padded message of R190 fits the buffer of R191 by its count of blocks. -/
theorem md5OverCapacity_iff (p : Params) (len : Nat) :
    md5OverCapacity p len = true ↔ ∃ n, p.md5PadBlocks = some n ∧ n < (len + 8) / 64 := by
  unfold md5OverCapacity md5PaddedLength
  cases p.md5PadBlocks with
  | none => simp
  | some n => simp only [decide_eq_true_eq, Option.some.injEq, exists_eq_left']; omega

variable (s : State)

theorem checkOp_precond (h : s.latched.len = 0) : s.checkOp .pearson = some .precond :=
  if_pos ⟨rfl, h⟩

theorem checkOp_capacity (h : ∃ n, s.params.md5PadBlocks = some n ∧ n < (s.latched.len.toNat + 8) / 64) :
    s.checkOp .md5 = some .capacity := by
  rw [State.checkOp, if_neg (fun hp => by cases hp.1), if_pos ⟨rfl, (md5OverCapacity_iff _ _).mpr h⟩]

/-- What is left of the checks when the first ones pass (R225). -/
theorem checkOp_footprint {op : Op} (hprecond : ¬ (op = .pearson ∧ s.latched.len = 0))
    (hcapacity : ¬ (op = .md5 ∧ ∃ n, s.params.md5PadBlocks = some n ∧ n < (s.latched.len.toNat + 8) / 64)) :
    s.checkOp op = (firstUnreadable s.params op s.latched).map .busError := by
  rw [State.checkOp, if_neg hprecond, if_neg (by rwa [md5OverCapacity_iff])]

theorem len_ne_zero_of_checkOp (h : s.checkOp .pearson = none) : s.latched.len ≠ 0 := fun hlen => by
  rw [checkOp_precond s hlen] at h
  cases h

/-- The completion of a reserved OP (R224). -/
theorem complete_illegalOp (h : opOfBits s.latched.op = none) : s.complete = .next (s.completeError .illegalOp) := by
  simp [State.complete, h]

theorem regionRefusal_sideEffect {p : Params} {op : Op} {l : Latched}
    (h : ∃ a ∈ footprint op l, readHasSideEffect p a = true) : regionRefusal p op l = some .sideEffectRegion :=
  if_pos (List.any_eq_true.mpr h)

theorem regionRefusal_volatile {p : Params} {op : Op} {l : Latched}
    (hnone : ∀ a ∈ footprint op l, readHasSideEffect p a = false) (h : ∃ a ∈ footprint op l, changesAlone p a = true) :
    regionRefusal p op l = some .volatileRegion := by
  rw [regionRefusal, if_neg, if_pos (List.any_eq_true.mpr h)]
  rw [List.any_eq_true]
  rintro ⟨a, ha, htrue⟩
  exact Bool.false_ne_true ((hnone a ha).symm.trans htrue)

/-! ## What a completion depends on -/

/-- No completion reads or writes the events still to come (log 1). -/
theorem complete_setInbox {t : State} (es : List Event) (h : s.complete = .next t) :
    (s.setInbox es).complete = .next (t.setInbox es) := by
  obtain ⟨ho, rfl⟩ | ⟨op, e, ho, hc, rfl⟩ | ⟨op, ho, hc, hr, rfl⟩ := complete_next s t h
  · exact complete_illegalOp (s.setInbox es) ho
  · rw [complete_error (s.setInbox es) op e ho hc, completeError_eq, completeError_eq]; rfl
  · exact complete_success (s.setInbox es) op ho hc hr

variable {s}

theorem step_of_inbox_nil_busy (hinbox : s.inbox = []) (hb : s.regs.status.busy = true) : step s = s.complete := by
  rw [step_of_engineMoves_busy (.inl hinbox) hb, setInbox_tail_of_nil hinbox]

/-- The outcome of a completion depends on the latched operands and the parameters only: another state with the same ones
completes with the same error, or with success too. -/
theorem complete_congr {t u : State} (hl : t.latched = s.latched) (hp : t.params = s.params) (h : s.complete = .next u) :
    (∃ e, u = s.completeError e ∧ t.complete = .next (t.completeError e)) ∨
      ∃ op, opOfBits s.latched.op = some op ∧ s.checkOp op = none ∧ u = s.completeSuccess op ∧
        t.complete = .next (t.completeSuccess op) := by
  have hcheck (op : Op) : t.checkOp op = s.checkOp op := by unfold State.checkOp; rw [hl, hp]
  obtain ⟨ho, rfl⟩ | ⟨op, e, ho, hc, rfl⟩ | ⟨op, ho, hc, hr, rfl⟩ := complete_next s u h
  · exact .inl ⟨_, rfl, complete_illegalOp t (hl ▸ ho)⟩
  · exact .inl ⟨e, rfl, complete_error t op e (hl ▸ ho) ((hcheck op).trans hc)⟩
  · exact .inr ⟨op, ho, hc, rfl, complete_success t op (hl ▸ ho) ((hcheck op).trans hc) (by rw [hp, hl]; exact hr)⟩

/-- A digest depends on the latched operands, the parameters and the footprint bytes only (00_scope.md R2). -/
theorem opDigest_congr {t : State} {op : Op} (hc : s.checkOp op = none) (hl : t.latched = s.latched)
    (hp : t.params = s.params) (hmem : ∀ a ∈ footprint op s.latched, memRead t.mem a = memRead s.mem a) :
    t.opDigest op = s.opDigest op := by
  have hmsg : ∀ j < s.latched.len.toNat, t.msg j = s.msg j := fun j hj => by
    rw [State.msg, State.msg, hl]
    exact hmem _ (message_mem_footprint op hj)
  unfold State.opDigest State.runOp
  simp only [hl, hp]
  cases op with
  | pearson =>
    have hlen : 0 < s.latched.len.toNat := Nat.pos_of_ne_zero fun h0 =>
      len_ne_zero_of_checkOp s hc (BitVec.eq_of_toNat_eq h0)
    have htab : ∀ k, t.pearsonTable k = s.pearsonTable k := fun k => by
      rw [State.pearsonTable, State.pearsonTable, hl]
      exact hmem _ (pearsonTable_mem_footprint k.isLt)
    exact congrArg digest32 (pearsonRun_congr _ _ _ _ _ hlen hmsg htab)
  | crc32t =>
    have htab : ∀ k, t.crcTable k = s.crcTable k := fun k => by
      have hk := k.isLt
      simp only [State.crcTable, memRead32, hl, Nat.add_assoc]
      rw [hmem _ (crcTable_mem_footprint (by omega)), hmem _ (crcTable_mem_footprint (by omega)),
        hmem _ (crcTable_mem_footprint (by omega)), hmem _ (crcTable_mem_footprint (by omega))]
    exact congrArg (fun w : CrcWork => digest32 w.r) (crcRun_congr _ _ t.work.crc32t s.work.crc32t hmsg htab)
  | crc32b =>
    exact congrArg (fun w : CrcWork => digest32 w.r) (crcRun_congr _ _ t.work.crc32b s.work.crc32b hmsg fun _ => rfl)
  | sdbm => exact congrArg (fun w : AccWork => digest32 w.h) (sdbmRun_congr t.work.sdbm s.work.sdbm hmsg)
  | fnv1a => exact congrArg (fun w : AccWork => digest32 w.h) (fnv1aRun_congr t.work.fnv1a s.work.fnv1a hmsg)
  | oat => exact congrArg (fun w : AccWork => digest32 w.h) (oatRun_congr t.work.oat s.work.oat hmsg)
  | lookup3 => exact congrArg (fun w : Lookup3Work => digest32 w.c) (lookup3Run_congr _ _ hmsg)
  | md5 =>
    obtain ⟨h0, h1, h2, h3, _⟩ := md5Run_congr t.work.md5 s.work.md5 hmsg
    simp only [digestOf, h0, h1, h2, h3]

theorem opPath_congr {t : State} (op : Op) (hl : t.latched = s.latched) : t.opPath op = s.opPath op := by
  rw [State.opPath, State.opPath, hl]

/-- A completion leaves the latched operands (log 26) and the operand registers. -/
theorem complete_next_keeps {t : State} (h : s.complete = .next t) :
    t.latched = s.latched ∧ t.regs.src = s.regs.src ∧ t.regs.len = s.regs.len ∧ t.regs.seed = s.regs.seed ∧
      t.regs.tbl = s.regs.tbl := by
  obtain ⟨_, rfl⟩ | ⟨op, e, _, _, rfl⟩ | ⟨op, _, _, _, rfl⟩ := complete_next s t h
  · exact ⟨rfl, rfl, rfl, rfl, rfl⟩
  · rw [completeError_eq]; exact ⟨rfl, rfl, rfl, rfl, rfl⟩
  · exact ⟨rfl, rfl, rfl, rfl, rfl⟩

/-- An error completion leaves RESULT0..3 (60_exceptions.md R222). -/
theorem completeError_results (s : State) (e : HashError) : (s.completeError e).regs.results = s.regs.results := by
  rw [completeError_eq]; rfl

theorem completeError_status (s : State) (e : HashError) :
    (s.completeError e).regs.status = s.regs.status.onError e := by
  rw [completeError_eq]

/-- ERRADDR after an error, from its value before: only BUS_ERROR writes it (40_register_access.md R105). -/
def HashError.addrAfter (old : Word) : HashError → Word
  | .busError a => BitVec.ofNat 32 a
  | .illegalOp | .precond | .capacity => old

theorem completeError_errAddr (s : State) (e : HashError) :
    (s.completeError e).regs.errAddr = e.addrAfter s.regs.errAddr := by
  cases e <;> rfl

/-- A success that no store raced holds the digest of the latched operands (R221, R227). -/
theorem completeSuccess_results {op : Op} (h : s.raced = false) :
    (s.completeSuccess op).regs.results = s.opDigest op := by
  rw [completeSuccess_eq, h]; rfl

/-! ## From START to completion -/

/-- The operation that an accepted START of `op` puts in flight, the engine's turn taken from the inbox. -/
def State.launched (s : State) (ie : Bool) (op : BitVec 4) : State := (s.acceptStart ie op).setInbox s.inbox.tail

/-- A command to an idle core whose engine has the next turn runs to the completion of what it launched. -/
theorem runsTo_of_complete {u : State} {ie : Bool} {op : BitVec 4} (hb : s.regs.status.busy = false)
    (hmoves : EngineMoves s) (h : (s.launched ie op).complete = .next u) : RunsTo (commandOf op ie) s u := by
  refine ⟨s.acceptStart ie op, ?_, rfl, ?_⟩
  · rw [exec_commandOf, startCommand_idle s ie op hb]
  · exact (step_of_engineMoves_busy (s := s.acceptStart ie op) hmoves rfl).trans h

/-- What an accepted START and an error completion without an address leave (R92, R222). -/
theorem errorFrom_completeError (s : State) (ie : Bool) (op : BitVec 4) {e : HashError} (he : ∀ a, e ≠ .busError a) :
    ErrorFrom s ((s.launched ie op).completeError e) ie op e.code 0 := by
  cases e with
  | busError a => exact absurd rfl (he a)
  | illegalOp | precond | capacity => exact ⟨rfl, rfl, rfl, rfl, rfl, rfl, rfl, rfl⟩

/-- A command whose checks end in an error without an address (60_exceptions.md R223). -/
theorem command_errorFrom {ie : Bool} {op : BitVec 4} {e : HashError} (hb : s.regs.status.busy = false)
    (hmoves : EngineMoves s) (he : ∀ a, e ≠ .busError a)
    (h : (s.launched ie op).complete = .next ((s.launched ie op).completeError e)) :
    ∃ u, RunsTo (commandOf op ie) s u ∧ ErrorFrom s u ie op e.code 0 :=
  ⟨_, runsTo_of_complete hb hmoves h, errorFrom_completeError s ie op he⟩

/-- What an accepted START and a success completion leave (R92, R221). -/
theorem successFrom_completeSuccess (s : State) (ie : Bool) (bits : BitVec 4) (op : Op) :
    SuccessFrom s ((s.launched ie bits).completeSuccess op) ie bits (((s.launched ie bits).opPath op).getD 0)
      ((s.launched ie bits).opDigest op) :=
  ⟨rfl, rfl, rfl, rfl, rfl, rfl, rfl, rfl⟩

/-- An address of a plain range (20_memory.md R51, R52): `Plain` says it of each address of the range. -/
def PlainAt (p : Params) (a : Nat) : Prop :=
  memReadable p a = true ∧ readHasSideEffect p a = false ∧ changesAlone p a = false

/-- A command that passes its first checks and whose footprint is plain completes with its digest. -/
theorem command_successFrom {ie : Bool} {bits : BitVec 4} {op : Op} (hb : s.regs.status.busy = false)
    (hmoves : EngineMoves s) (ho : opOfBits bits = some op) (hprecond : ¬ (op = .pearson ∧ s.regs.len = 0))
    (hcapacity : ¬ (op = .md5 ∧ ∃ n, s.params.md5PadBlocks = some n ∧ n < (s.regs.len.toNat + 8) / 64))
    (hplain : ∀ a ∈ footprint op (s.launched ie bits).latched, PlainAt s.params a) :
    ∃ u, RunsTo (commandOf bits ie) s u ∧
      SuccessFrom s u ie bits (((s.launched ie bits).opPath op).getD 0) ((s.launched ie bits).opDigest op) := by
  have hcheck : (s.launched ie bits).checkOp op = none := by
    have hreadable : firstUnreadable s.params op (s.launched ie bits).latched = none :=
      firstUnreadable_none fun a ha => (hplain a ha).1
    rw [checkOp_footprint (s.launched ie bits) hprecond hcapacity]
    exact congrArg (Option.map HashError.busError) hreadable
  have hregions : regionRefusal s.params op (s.launched ie bits).latched = none :=
    regionRefusal_none _ _ _ fun a ha => (hplain a ha).2
  exact ⟨_, runsTo_of_complete hb hmoves (complete_success (s.launched ie bits) op ho hcheck hregions),
    successFrom_completeSuccess s ie bits op⟩

/-! ## Races -/

/-- In flight with the address in the footprint of the latched operation: that is when a store races (20_memory.md R61). -/
theorem racesAt_iff (s : State) (a : Nat) : s.racesAt a = true ↔
    s.regs.status.busy = true ∧ ∃ op, opOfBits s.latched.op = some op ∧ a ∈ footprint op s.latched := by
  rw [State.racesAt, Bool.and_eq_true, inFootprint_iff]

/-- The whole state after a store that races. -/
theorem hostStore_racing (a : Nat) (b : Byte) (h : s.racesAt a = true) : s.hostStore a b =
    { s with mem := memWrite s.mem a b, faults := ⟨s.faults.busAccess, true⟩, raced := true } := by
  rw [State.hostStore, if_pos h]; rfl

/-- STATUS, ERRADDR and the recorded faults after a completion do not depend on memory or on a race. -/
theorem complete_asUsual {t u : State} (hl : t.latched = s.latched) (hp : t.params = s.params) (hr : t.regs = s.regs)
    (hf : t.faults = s.faults) (h : s.complete = .next u) :
    ∃ w, t.complete = .next w ∧ w.regs.status = u.regs.status ∧ w.regs.errAddr = u.regs.errAddr ∧
      w.faults = s.faults ∧ u.faults = s.faults := by
  obtain ⟨e, rfl, ht⟩ | ⟨op, _, _, rfl, ht⟩ := complete_congr hl hp h
  · refine ⟨_, ht, ?_⟩
    rw [completeError_eq, completeError_eq, hr, hf]
    exact ⟨rfl, rfl, rfl, rfl⟩
  · refine ⟨_, ht, ?_⟩
    rw [completeSuccess_eq, completeSuccess_eq, hr, hf, opPath_congr op hl]
    exact ⟨rfl, rfl, rfl, rfl⟩

/-- The completion after a race is the completion without it but for the digest (70_reset_and_hazards.md R255). -/
theorem race_asUsual {t : State} (hmoves : EngineMoves t) (hb : t.regs.status.busy = true) :
    (∀ w, step { t with raced := false } = .next w → ∃ u, step t = .next u ∧ u.regs.status = w.regs.status ∧
      u.regs.errAddr = w.regs.errAddr ∧ u.faults = t.faults) ∧
    (∀ u, step t = .next u → ∃ w, step { t with raced := false } = .next w ∧ u.regs.status = w.regs.status ∧
      u.regs.errAddr = w.regs.errAddr ∧ u.faults = t.faults) := by
  have hrace := step_of_engineMoves_busy hmoves hb
  have hnoRace := step_of_engineMoves_busy (s := { t with raced := false }) hmoves hb
  rw [hrace, hnoRace]
  constructor
  · intro w hw
    obtain ⟨u, hu, hstatus, haddr, hfaults, _⟩ :=
      complete_asUsual (s := State.setInbox { t with raced := false } t.inbox.tail) (t := t.setInbox t.inbox.tail)
        rfl rfl rfl rfl hw
    exact ⟨u, hu, hstatus, haddr, hfaults⟩
  · intro u hu
    obtain ⟨w, hw, hstatus, haddr, _, hfaults⟩ :=
      complete_asUsual (s := t.setInbox t.inbox.tail) (t := State.setInbox { t with raced := false } t.inbox.tail)
        rfl rfl rfl rfl hu
    exact ⟨w, hw, hstatus.symm, haddr.symm, hfaults⟩

/-! ## Transactions while an operation is in flight (70_reset_and_hazards.md R258) -/

/-- What the completion of the operation in flight reads or leaves is the same in both states. -/
structure SameFlight (s t : State) : Prop where
  latched : t.latched = s.latched
  params : t.params = s.params
  mem : t.mem = s.mem
  raced : t.raced = s.raced
  freeCount : t.freeCount = s.freeCount
  results : t.regs.results = s.regs.results
  errAddr : t.regs.errAddr = s.regs.errAddr
  /-- But for BUSYERR. -/
  status : { t.regs.status with busyErr := false } = { s.regs.status with busyErr := false }

/-- In flight DONE and ERR are clear already, so an acknowledgement can clear BUSYERR only. -/
theorem sameFlight_acknowledge (hinv : Inv s) (hb : s.regs.status.busy = true) (v : Word) :
    SameFlight s (s.acknowledge v) := by
  obtain ⟨hdone, herr, _, _⟩ := hinv.busyClear hb
  refine ⟨rfl, rfl, rfl, rfl, rfl, rfl, rfl, ?_⟩
  simp [State.acknowledge, Status.w1c, hdone, herr]

/-- No transaction touches the operation in flight (R258, 10_state.md R36). -/
theorem sameFlight_of_hostEffect {t : State} (hinv : Inv s) (hb : s.regs.status.busy = true) (h : HostEffect s t) :
    SameFlight s t := by
  cases h with
  | start ie op => rw [startCommand_busy s ie op hb]; exact ⟨rfl, rfl, rfl, rfl, rfl, rfl, rfl, rfl⟩
  | acknowledge v => exact sameFlight_acknowledge hinv hb v
  | writeCtrl v | setSrc v | setLen v | setSeed v | setTbl v | read slot | ignored =>
    exact ⟨rfl, rfl, rfl, rfl, rfl, rfl, rfl, rfl⟩

theorem onError_congr {st st' : Status} (e : HashError)
    (h : { st with busyErr := false } = { st' with busyErr := false }) :
    { st.onError e with busyErr := false } = { st'.onError e with busyErr := false } := by
  obtain ⟨_, hdone, herr, _, hcode, hpath⟩ := Status.mk.inj h
  simp [Status.onError, hpath]

theorem onSuccess_congr {st st' : Status} (path : Option (BitVec 2))
    (h : { st with busyErr := false } = { st' with busyErr := false }) :
    { st.onSuccess path with busyErr := false } = { st'.onSuccess path with busyErr := false } := by
  obtain ⟨_, hdone, herr, _, hcode, hpath⟩ := Status.mk.inj h
  simp [Status.onSuccess, herr, hcode, hpath]

/-- Two states with the same flight complete with the same RESULT0..3, ERRADDR, and STATUS but for BUSYERR. -/
theorem complete_sameFlight {t u : State} (hf : SameFlight s t) (h : s.complete = .next u) :
    ∃ w, t.complete = .next w ∧ w.regs.results = u.regs.results ∧ w.regs.errAddr = u.regs.errAddr ∧
      { w.regs.status with busyErr := false } = { u.regs.status with busyErr := false } := by
  obtain ⟨e, rfl, ht⟩ | ⟨op, _, hc, rfl, ht⟩ := complete_congr hf.latched hf.params h
  · refine ⟨_, ht, ?_, ?_, ?_⟩
    · rw [completeError_results, completeError_results, hf.results]
    · rw [completeError_errAddr, completeError_errAddr, hf.errAddr]
    · rw [completeError_status, completeError_status]; exact onError_congr e hf.status
  · have hdigest : t.opDigest op = s.opDigest op := opDigest_congr hc hf.latched hf.params fun a _ => by rw [hf.mem]
    refine ⟨_, ht, ?_, ?_, ?_⟩
    · rw [completeSuccess_eq, completeSuccess_eq, hdigest, hf.raced, hf.freeCount]; rfl
    · exact hf.errAddr
    · rw [completeSuccess_eq, completeSuccess_eq, opPath_congr op hf.latched]; exact onSuccess_congr _ hf.status

/-- BUSYERR set before a completion is set after it, and nothing else in the block tells (R226). -/
theorem complete_dropStart {t : State} (h : s.complete = .next t) :
    ∃ w, s.dropStart.complete = .next w ∧
      w.regs = { t.regs with status := { t.regs.status with busyErr := true } } := by
  obtain ⟨e, rfl, ht⟩ | ⟨op, _, _, rfl, ht⟩ := complete_congr (s := s) (t := s.dropStart) rfl rfl h
  · exact ⟨_, ht, by rw [completeError_eq, completeError_eq]; rfl⟩
  · exact ⟨_, ht, rfl⟩

end Sys2Proof.Machine
end

/-! ## The statements -/

section
namespace Sys2Proof.Proofs.Completions

open Sys2Proof Sys2Proof.Machine Sys2Proof.Claims

/-- Settles O29: each of the eight is the command of its OP, which names no operation. -/
theorem reservedOpIsIllegalOp : Obligations.ReservedOpIsIllegalOp := by
  intro s ie hb hmoves p hp
  have hreserved : p.1 = commandOf p.2 ie ∧ opOfBits p.2 = none := by
    simp only [List.mem_cons, List.not_mem_nil, or_false] at hp
    obtain rfl | rfl | rfl | rfl | rfl | rfl | rfl | rfl := hp <;> exact ⟨rfl, rfl⟩
  obtain ⟨hcommand, ho⟩ := hreserved
  rw [hcommand]
  exact command_errorFrom (e := .illegalOp) hb hmoves (fun a h => by cases h) (complete_illegalOp (s.launched ie p.2) ho)

/-- Settles O30: PRECOND comes before the footprint is looked at. -/
theorem pearsonLengthZeroIsPrecond : Obligations.PearsonLengthZeroIsPrecond := by
  intro s ie hb hmoves hlen
  exact command_errorFrom (op := 1) (e := .precond) hb hmoves (fun a h => by cases h)
    (complete_error (s.launched ie 1) .pearson .precond rfl (checkOp_precond (s.launched ie 1) hlen))

/-- Settles O31: CAPACITY comes before the footprint is looked at. -/
theorem md5OverCapacity : Obligations.Md5OverCapacity := by
  intro s ie n hb hmoves hblocks hlarge
  have hcapacity : ∃ n, s.params.md5PadBlocks = some n ∧ n < (s.regs.len.toNat + 8) / 64 := ⟨n, hblocks, by omega⟩
  exact command_errorFrom (op := 8) (e := .capacity) hb hmoves (fun a h => by cases h)
    (complete_error (s.launched ie 8) .md5 .capacity rfl (checkOp_capacity (s.launched ie 8) hcapacity))

/-- Settles O32: the split of the footprint names its first unreadable address (`firstUnreadable_split`). -/
theorem busErrorAtFirstUnreadable : Obligations.BusErrorAtFirstUnreadable := by
  intro s op a before after hb hmoves ho hprecond hcapacity hsplit hbefore ha
  rw [← footprint_eq] at hsplit
  have hcheck : s.checkOp op = some (.busError a) := by
    rw [checkOp_footprint s hprecond hcapacity, firstUnreadable_split hsplit hbefore ha]; rfl
  have hcomplete := complete_error (s.setInbox s.inbox.tail) op (.busError a) ho hcheck
  rw [completeError_eq] at hcomplete
  refine ⟨_, (step_of_engineMoves_busy hmoves hb).trans hcomplete, ?_, rfl, rfl, rfl, rfl, rfl, rfl⟩
  have haddr : BitVec.ofNat 32 a = BitVec.ofNat 32 (a % 4294967296) := BitVec.eq_of_toNat_eq (by simp)
  rw [← haddr]
  rfl

/-- Settles O33: with every check passed the completion is the refusal of the region. -/
theorem forbiddenRegionIsRefused : Obligations.ForbiddenRegionIsRefused := by
  intro s op hb hmoves ho hprecond hcapacity hreadable
  have hcheck : s.checkOp op = none := by
    rw [checkOp_footprint s hprecond hcapacity, firstUnreadable_none hreadable]; rfl
  rw [step_of_engineMoves_busy hmoves hb]
  exact ⟨fun hside => complete_refused (s.setInbox s.inbox.tail) op _ ho hcheck (regionRefusal_sideEffect hside),
    fun hnone hvolatile =>
      complete_refused (s.setInbox s.inbox.tail) op _ ho hcheck (regionRefusal_volatile hnone hvolatile)⟩

/-- Settles O34: the checks by their lemmas, and ERR goes with a code by the case of the completion. -/
theorem checkOrderDecidesErrorCode : Obligations.CheckOrderDecidesErrorCode := by
  intro s u hinv hb hmoves h
  obtain ⟨_, herr, hcode, _⟩ := hinv.busyClear hb
  rw [step_of_engineMoves_busy hmoves hb] at h
  have error (e : HashError) (he : (s.setInbox s.inbox.tail).complete = .next ((s.setInbox s.inbox.tail).completeError e)) :
      u.regs.status.errCode = e.code := by
    cases he.symm.trans h
    rw [completeError_status]; rfl
  obtain ⟨hbusy, hdone, _⟩ := complete_next_status h
  refine ⟨fun ho => error _ (complete_illegalOp (s.setInbox s.inbox.tail) ho), fun ⟨ho, hlen⟩ => ?precond,
    fun ⟨ho, hfull⟩ => ?capacity, fun o ho hprecond hcapacity => ?footprint, ?err, hdone, hbusy⟩
  case precond => exact error _ (complete_error (s.setInbox s.inbox.tail) .pearson _ ho (checkOp_precond s hlen))
  case capacity => exact error _ (complete_error (s.setInbox s.inbox.tail) .md5 _ ho (checkOp_capacity s hfull))
  case footprint =>
    simp only [ho, Option.some.injEq] at hprecond hcapacity
    have hcheck := checkOp_footprint s hprecond hcapacity
    constructor
    · intro hunreadable
      obtain ⟨a, ha⟩ := firstUnreadable_isSome hunreadable
      rw [ha] at hcheck
      exact error _ (complete_error (s.setInbox s.inbox.tail) o _ ho hcheck)
    · intro hreadable
      rw [firstUnreadable_none hreadable] at hcheck
      obtain ⟨hnone, _⟩ | ⟨op, e, hop, hfail, _⟩ | ⟨op, _, _, _, rfl⟩ := complete_next _ u h
      · cases hnone.symm.trans ho
      · cases hop.symm.trans ho
        cases hfail.symm.trans hcheck
      · exact hcode
  case err =>
    obtain ⟨e, rfl, _⟩ | ⟨op, _, _, rfl, _⟩ := complete_congr rfl rfl h
    · rw [completeError_status]
      exact ⟨fun _ => e.code_ne_zero, fun _ => rfl⟩
    · exact ⟨fun h => absurd (herr.symm.trans h) Bool.false_ne_true, fun h => absurd hcode h⟩

/-- Settles O35: an error completion keeps the results, and a success writes the digest. -/
theorem completionIsAllOrNothing : Obligations.CompletionIsAllOrNothing := by
  intro s u hinv hb hmoves h
  obtain ⟨_, herr, hcode, _⟩ := hinv.busyClear hb
  rw [step_of_engineMoves_busy hmoves hb] at h
  obtain ⟨e, rfl, _⟩ | ⟨op, ho, _, rfl, _⟩ := complete_congr rfl rfl h
  · obtain ⟨h0, h1, h2, h3⟩ := Digest.mk.inj (completeError_results (s.setInbox s.inbox.tail) e)
    rw [completeError_status]
    exact ⟨fun _ => ⟨h0, h1, h2, h3⟩, fun hok => absurd hok.symm Bool.false_ne_true,
      fun hok => absurd hok.symm Bool.false_ne_true⟩
  · exact ⟨fun hfail => absurd (herr.symm.trans hfail) Bool.false_ne_true, fun _ => ⟨rfl, hcode⟩,
      fun _ hraced => ⟨op, ho, completeSuccess_results (s := s.setInbox s.inbox.tail) hraced⟩⟩

/-- Settles O46: every transaction leaves the same flight. -/
theorem transactionsDoNotAffectFlight : Obligations.TransactionsDoNotAffectFlight := by
  intro s t u i hinv hb hinbox hexec h
  obtain ⟨t', ht', heffect⟩ := exec_effect i s
  cases ht'.symm.trans hexec
  obtain ⟨_, _, _, hinbox', _, _⟩ := hostEffect_keeps heffect
  rw [step_of_inbox_nil_busy hinbox hb] at h
  rw [step_of_inbox_nil_busy (hinbox'.trans hinbox) (hostEffect_keeps_busy heffect hb)]
  obtain ⟨w, hw, hresults, haddr, hstatus⟩ := complete_sameFlight (sameFlight_of_hostEffect hinv hb heffect) h
  obtain ⟨h0, h1, h2, h3⟩ := Digest.mk.inj hresults
  exact ⟨w, hw, h0, h1, h2, h3, haddr, hstatus⟩

/-- Settles O47: whether the store races is `racesAt_iff`, and what the race changes for the completion `race_asUsual`. -/
theorem footprintRaceRecordedAndCompletes : Obligations.FootprintRaceRecordedAndCompletes := by
  intro s a b rest ha hinbox inFlight
  have hstep : step s = .next ((s.setInbox rest).hostStore a b) := by
    rw [step_of_inbox_cons hinbox]; exact if_pos ha
  constructor
  · intro hflight
    have hb : s.regs.status.busy = true := hflight.1
    rw [hostStore_racing a b ((racesAt_iff (s.setInbox rest) a).mpr hflight)] at hstep
    refine ⟨_, hstep, rfl, rfl, rfl, rfl, rfl, rfl, fun hmoves => ?_⟩
    exact race_asUsual hmoves hb
  · intro hflight
    rw [hstep, hostStore_elsewhere]
    · rfl
    · exact Bool.eq_false_iff.mpr fun hrace => hflight ((racesAt_iff (s.setInbox rest) a).mp hrace)

/-- Settles O52: the START before the completion is O11, the one after it O10. -/
theorem startAndCompletionInEitherOrder : Obligations.StartAndCompletionInEitherOrder := by
  intro s t v hv hb hinbox h
  rw [step_of_inbox_nil_busy hinbox hb] at h
  obtain ⟨hidle, _, _⟩ := complete_next_status h
  obtain ⟨hlatched, hsrc, hlen, hseed, htbl⟩ := complete_next_keeps h
  constructor
  · obtain ⟨w, hw, hregs⟩ := complete_dropStart h
    have hw' := complete_setInbox (s.dropStart) [] hw
    refine ⟨_, (RegisterAccess.startDropSetsBusyErr s v hv hb).2 [.engine], rfl, rfl, w.setInbox [], ?_, hregs, ?_, ?_⟩
    · exact (step_of_engineMoves_busy (s := s.dropStart.setInbox [.engine]) (.inr ⟨[], rfl⟩) hb).trans hw'
    · exact (congrArg (fun r : RegBlock => r.status.busy) hregs).trans hidle
    · exact (complete_next_keeps hw).1
  · refine ⟨t.setInbox [.txn (0x40 :: leBytes v)], ?_, rfl, _,
      (RegisterAccess.startAcceptLatchesOperands t v hv hidle).2 [], rfl, ?_⟩
    · exact (step_of_engineMoves_busy (s := s.setInbox _) (.inr ⟨[.txn (0x40 :: leBytes v)], rfl⟩) hb).trans
        (complete_setInbox s _ h)
    · rw [hsrc, hlen, hseed, htbl]

/-- Settles O53: the outcome by `complete_congr`, the digest by `opDigest_congr`. -/
theorem digestIsPure : Obligations.DigestIsPure := by
  intro s t u hs ht hbs hbt hrs hrt hlatched hparams hmem hms hmt h
  obtain ⟨_, herr, hcode, hpath⟩ := hs.busyClear hbs
  obtain ⟨_, herr', hcode', hpath'⟩ := ht.busyClear hbt
  have haddr : s.regs.errAddr = t.regs.errAddr := (hs.errAddr_of_busy hbs).trans (ht.errAddr_of_busy hbt).symm
  rw [step_of_engineMoves_busy hms hbs] at h
  rw [step_of_engineMoves_busy hmt hbt]
  obtain ⟨e, rfl, hw⟩ | ⟨op, ho, hc, rfl, hw⟩ :=
    complete_congr (s := s.setInbox s.inbox.tail) (t := t.setInbox t.inbox.tail) hlatched.symm hparams.symm h
  · refine ⟨_, hw, ?_⟩
    rw [completeError_status, completeError_status, completeError_errAddr, completeError_errAddr]
    exact ⟨rfl, rfl, hpath.trans hpath'.symm, congrArg (HashError.addrAfter · e) haddr,
      fun hok => absurd hok.symm Bool.false_ne_true⟩
  · have hdigest : t.opDigest op = s.opDigest op :=
      opDigest_congr hc hlatched.symm hparams.symm fun a ha => (hmem op ho a ha).symm
    have hresults : (s.completeSuccess op).regs.results = (t.completeSuccess op).regs.results := by
      rw [completeSuccess_results hrs, completeSuccess_results hrt, hdigest]
    obtain ⟨h0, h1, h2, h3⟩ := Digest.mk.inj hresults
    refine ⟨_, hw, herr.trans herr'.symm, hcode.trans hcode'.symm, ?_, haddr, fun _ => ⟨h0, h1, h2, h3⟩⟩
    change (s.opPath op).getD s.regs.status.l3path = (t.opPath op).getD t.regs.status.l3path
    rw [opPath_congr op hlatched, hpath, hpath']

end Sys2Proof.Proofs.Completions
end

/-! # The operations (spec/41_pearson.md to spec/45_md5.md): digests as folds over the message, and what follows from them -/

/-! ## Loops over the message -/

section
namespace Sys2Proof.Machine

open Sys2Proof.Claims

theorem le32_eq_word32 (b0 b1 b2 b3 : Byte) : le32 b0 b1 b2 b3 = word32 b0 b1 b2 b3 := le32_eq_append b0 b1 b2 b3

/-- A field that a loop updates from itself and the message byte of the round is a fold over the message from the first
index on. -/
theorem forRange_message {σ α : Type} (field : σ → α) (update : α → Byte → α) (msg : Nat → Byte) (body : σ → Nat → σ)
    (hbody : ∀ w j, field (body w j) = update (field w) (msg j)) (start len : Nat) (init : σ) :
    field (forRange start len init body) = (((List.range len).map msg).drop start).foldl update (field init) := by
  have hdrop : (List.range len).drop start = List.range' start (len - start) := by
    rw [List.range_eq_range', List.drop_range', Nat.zero_add, Nat.mul_one]
  rw [← List.map_drop, hdrop, List.foldl_map, forRange]
  exact (List.foldl_hom field fun w j => (hbody w j).symm).symm

/-- The same for a loop from 0. -/
theorem forRange_zero_message {σ α : Type} (field : σ → α) (update : α → Byte → α) (msg : Nat → Byte)
    (body : σ → Nat → σ) (hbody : ∀ w j, field (body w j) = update (field w) (msg j)) (len : Nat) (init : σ) :
    field (forRange 0 len init body) = ((List.range len).map msg).foldl update (field init) :=
  forRange_message field update msg body hbody 0 len init

variable (s : State)

/-! ## The accumulators (spec/43_accumulators.md) -/

theorem opDigest_sdbm : s.opDigest .sdbm =
    ⟨(message s.mem s.latched.src s.latched.len).foldl (fun h b => b.setWidth 32 + (h <<< 6) + (h >>> 16) - h) 0#32,
      0, 0, 0⟩ :=
  congrArg digest32 (forRange_zero_message AccWork.h sdbmByte s.msg _ (fun _ _ => rfl) _ _)

theorem opDigest_fnv1a : s.opDigest .fnv1a =
    ⟨(message s.mem s.latched.src s.latched.len).foldl (fun h b => (h ^^^ b.setWidth 32) * 0x01000193#32) 0x811C9DC5#32,
      0, 0, 0⟩ :=
  congrArg digest32 (forRange_zero_message AccWork.h fnv1aByte s.msg _ (fun _ _ => rfl) _ _)

theorem opDigest_oat : s.opDigest .oat =
    ⟨oatFinal ((message s.mem s.latched.src s.latched.len).foldl oatByte 0#32), 0, 0, 0⟩ :=
  congrArg (fun h => digest32 (oatFinal h)) (forRange_zero_message AccWork.h oatByte s.msg _ (fun _ _ => rfl) _ _)

theorem foldl_oatByte_zero (n : Nat) : (List.replicate n 0#8).foldl oatByte 0#32 = 0#32 := by
  induction n with
  | zero => rfl
  | succ n ih => rw [List.replicate_succ, List.foldl_cons]; exact ih

/-! ## The CRC units (spec/42_crc32.md) -/

theorem computeCRC_eq_crcEntry (n : Byte) : computeCRC n = crcEntry n := by
  have hstep (c : Word) : crcBitStep c = if c &&& 1#32 = 1#32 then (c >>> 1) ^^^ 0xEDB88320#32 else c >>> 1 := by
    rw [crcBitStep, BitVec.and_one_eq_setWidth_ofBool_getLsbD]
    cases c.getLsbD 0 <;> rfl
  rw [computeCRC, forRange_zero, crcEntry]
  simp only [hstep, zext32]

theorem crcRun_eq (msg : Nat → Byte) (entry : Byte → Word) (len : Nat) (w : CrcWork) :
    (crcRun msg entry len w).r = ((List.range len).map msg).foldl (crcByte entry) crcInit :=
  forRange_zero_message CrcWork.r (crcByte entry) msg _ (fun _ _ => rfl) len _

theorem opDigest_crc32t : s.opDigest .crc32t =
    ⟨(message s.mem s.latched.src s.latched.len).foldl (crcByte s.crcTable) 0x00FFFFFF#32, 0, 0, 0⟩ :=
  congrArg digest32 (crcRun_eq s.msg s.crcTable _ s.work.crc32t)

theorem opDigest_crc32b : s.opDigest .crc32b =
    ⟨(message s.mem s.latched.src s.latched.len).foldl (crcByte crcEntry) 0x00FFFFFF#32, 0, 0, 0⟩ := by
  rw [← funext computeCRC_eq_crcEntry]
  exact congrArg digest32 (crcRun_eq s.msg computeCRC _ s.work.crc32b)

/-! ## Pearson (spec/41_pearson.md) -/

/-- The byte that round `i` of R120 ends with, from the message bytes it runs over. -/
def pearsonByte (tab : Byte → Byte) (first : Byte) (bytes : List Byte) (i : Byte) : Byte :=
  bytes.foldl (fun h b => tab (h ^^^ b)) (tab (first + i))

theorem pearsonRound_res (msg : Nat → Byte) (tab : Byte → Byte) (j0 len : Nat) (w : PearsonWork) (i : Nat) :
    (pearsonRound msg tab j0 len w i).res =
      w.res ||| (zext32 (pearsonByte tab (msg 0) (((List.range len).map msg).drop j0) (BitVec.ofNat 8 i)) <<< (8 * i)) := by
  have hres := forRange_invariant (fun v : PearsonWork => v.res = w.res) j0 len
    { w with h := tab (msg 0 + BitVec.ofNat 8 i) } (fun w j => { w with h := tab (w.h ^^^ msg j) }) rfl
    fun _ _ _ _ hv => hv
  have hh := forRange_message PearsonWork.h (fun h b => tab (h ^^^ b)) msg (fun w j => { w with h := tab (w.h ^^^ msg j) })
    (fun _ _ => rfl) j0 len { w with h := tab (msg 0 + BitVec.ofNat 8 i) }
  simp only [pearsonRound, hres, hh, pearsonByte]

/-- The four rounds pack their bytes in order, the first in bits 7:0 (R120). -/
theorem pearsonRun_res (msg : Nat → Byte) (tab : Byte → Byte) (j0 len : Nat) (w : PearsonWork) :
    (pearsonRun msg tab j0 len w).res =
      word32 (pearsonByte tab (msg 0) (((List.range len).map msg).drop j0) 0)
        (pearsonByte tab (msg 0) (((List.range len).map msg).drop j0) 1)
        (pearsonByte tab (msg 0) (((List.range len).map msg).drop j0) 2)
        (pearsonByte tab (msg 0) (((List.range len).map msg).drop j0) 3) := by
  rw [pearsonRun, forRange_succ, forRange_succ, forRange_succ, forRange_succ, forRange_empty 0 0 _ _ le_rfl,
    pearsonRound_res, pearsonRound_res, pearsonRound_res, pearsonRound_res, ← le32_eq_word32, le32]
  simp

/-- The first byte of a message that has one. -/
theorem headD_message (m : Memory) (src : Word) {len : Word} (h : len ≠ 0) :
    (message m src len).headD 0 = memRead m src.toNat := by
  obtain ⟨n, hn⟩ : ∃ n, len.toNat = n + 1 :=
    Nat.exists_eq_succ_of_ne_zero fun h0 => h (BitVec.eq_of_toNat_eq h0)
  rw [message, hn, List.range_succ_eq_map]
  rfl

theorem opDigest_pearson (h : s.latched.len ≠ 0) :
    let msg := message s.mem s.latched.src s.latched.len
    let byte := pearsonByte s.pearsonTable (msg.headD 0) (msg.drop s.params.pearsonJStart.val)
    s.opDigest .pearson = ⟨word32 (byte 0) (byte 1) (byte 2) (byte 3), 0, 0, 0⟩ := by
  intro msg byte
  have hres := pearsonRun_res s.msg s.pearsonTable s.params.pearsonJStart.val s.latched.len.toNat s.work.pearson
  have hfirst : s.msg 0 = msg.headD 0 := (headD_message s.mem s.latched.src h).symm
  rw [hfirst] at hres
  exact congrArg digest32 hres

/-- A running XOR from any byte is that byte XORed with the running XOR from 0. -/
theorem foldl_xor (first : Byte) (bytes : List Byte) :
    bytes.foldl (fun x b => x ^^^ b) first = first ^^^ bytes.foldl (fun x b => x ^^^ b) 0 := by
  have h := List.foldl_assoc (op := fun x b : Byte => x ^^^ b) (ha := ⟨BitVec.xor_assoc⟩) (l := bytes) (a₁ := first)
    (a₂ := 0)
  simpa using h

/-! ## Lookup3 (spec/44_lookup3.md) -/

/-- A message byte, zero from the length on (R162). -/
def zeroFilled (msg : Nat → Byte) (len j : Nat) : Byte := if j < len then msg j else 0

/-- Four bytes from `p` on as a word (R162). -/
def wordAt (byte : Nat → Byte) (p : Nat) : Word := word32 (byte p) (byte (p + 1)) (byte (p + 2)) (byte (p + 3))

theorem lookup3Word_eq (msg : Nat → Byte) {p len : Nat} (h : p + 4 ≤ len) :
    lookup3Word msg p = wordAt (zeroFilled msg len) p := by
  simp only [lookup3Word, le32_eq_word32, wordAt, zeroFilled]
  rw [if_pos (by omega), if_pos (by omega), if_pos (by omega), if_pos (by omega)]

theorem tailByte_eq (msg : Nat → Byte) {p n len : Nat} (h : p + n = len) (k : Nat) :
    tailByte msg p n k = zeroFilled msg len (p + k) := by
  unfold tailByte zeroFilled
  by_cases hk : k < n
  · rw [if_pos hk, if_pos (by omega)]
  · rw [if_neg hk, if_neg (by omega)]

theorem lookup3Tail_eq (msg : Nat → Byte) {p n len : Nat} (h : p + n = len) (o : Nat) :
    lookup3Tail msg p n o = wordAt (zeroFilled msg len) (p + o) := by
  simp only [lookup3Tail, tailByte_eq msg h, le32_eq_word32, wordAt, Nat.add_assoc]

/-- The registers as the triple the rules of R160 and R161 work on. -/
def Lookup3Work.triple (w : Lookup3Work) : Word × Word × Word := (w.a, w.b, w.c)

/-- One round of R165 on the three registers. -/
def mixBlock (byte : Nat → Byte) (w : Word × Word × Word) (k : Nat) : Word × Word × Word :=
  mixSteps (w.1 + wordAt byte (12 * k)) (w.2.1 + wordAt byte (12 * k + 4)) (w.2.2 + wordAt byte (12 * k + 8))

theorem lookup3Block_triple (msg : Nat → Byte) {len k : Nat} (w : Lookup3Work) (h : 12 * k + 12 ≤ len) :
    (lookup3Block msg (12 * k) w).triple = mixBlock (zeroFilled msg len) w.triple k := by
  rw [lookup3Block, lookup3Word_eq msg (show 12 * k + 4 ≤ len by omega),
    lookup3Word_eq msg (show 12 * k + 4 + 4 ≤ len by omega), lookup3Word_eq msg (show 12 * k + 8 + 4 ≤ len by omega)]
  rfl

/-- The rounds before the tail, on the three registers. -/
theorem lookup3Blocks_triple (msg : Nat → Byte) (len rounds : Nat) (w : Lookup3Work) (h : 12 * rounds ≤ len) :
    ((List.range rounds).foldl (fun w k => lookup3Block msg (12 * k) w) w).triple =
      (List.range rounds).foldl (mixBlock (zeroFilled msg len)) w.triple := by
  rw [← forRange_zero, ← forRange_zero]
  refine forRange_rel (fun w v => Lookup3Work.triple w = v) 0 rounds _ _ _ _ rfl fun w v k _ hk hwv => ?_
  rw [lookup3Block_triple (len := len) msg w (by omega), hwv]

/-- The digest register of LOOKUP3 (R165, R167). -/
theorem lookup3Run_c (msg : Nat → Byte) (len seed : Word) :
    let rounds := (len.toNat - 1) / 12
    let byte := zeroFilled msg len.toNat
    let start := 0xDEADBEEF#32 + len + seed
    let w := (List.range rounds).foldl (mixBlock byte) (start, start, start)
    (lookup3Run msg len seed).c =
      if len = 0 then start
      else finalSteps (w.1 + wordAt byte (12 * rounds)) (w.2.1 + wordAt byte (12 * rounds + 4))
        (w.2.2 + wordAt byte (12 * rounds + 8)) := by
  intro rounds byte start w
  have hblocks := lookup3Blocks_triple msg len.toNat rounds (lookup3Start len seed) (by omega)
  rw [lookup3Run_eq]
  by_cases hlen : len = 0
  · subst hlen
    rfl
  · have hpos : len.toNat ≠ 0 := fun h => hlen (BitVec.eq_of_toNat_eq h)
    have htail : 12 * rounds + (len.toNat - 12 * rounds) = len.toNat := by omega
    rw [if_neg hlen, lookup3Finish, if_neg (show ¬ len.toNat - 12 * rounds = 0 by omega), lookup3Tail_eq msg htail,
      lookup3Tail_eq msg htail, lookup3Tail_eq msg htail]
    rw [show w = _ from hblocks.symm]
    rfl

/-- The path by the two low bits of the source (R163). -/
theorem lookup3Path_eq (src : Word) : lookup3Path src =
    if src.toNat % 4 = 0 then 3 else if src.toNat % 4 = 2 then 2 else 1 := by
  have h0 : src.getLsbD 0 = decide (src.toNat % 2 = 1) := by
    rw [BitVec.getLsbD, Nat.testBit_zero]
  have h1 : src.getLsbD 1 = decide (src.toNat / 2 % 2 = 1) := by
    rw [BitVec.getLsbD, Nat.testBit_succ, Nat.testBit_zero]
  rw [lookup3Path, h0, h1]
  simp only [decide_eq_true_eq]
  split
  · rw [if_neg (by omega), if_neg (by omega)]
  · split
    · rw [if_neg (by omega), if_pos (by omega)]
    · rw [if_pos (by omega)]

/-! ## MD5 (spec/45_md5.md) -/

/-- `z` of R190 brings the length to 56 mod 64, and no smaller count does. -/
theorem md5ZeroCount_least (len : Nat) :
    (len + 1 + md5ZeroCount len) % 64 = 56 ∧ ∀ z, (len + 1 + z) % 64 = 56 → md5ZeroCount len ≤ z := by
  unfold md5ZeroCount
  exact ⟨by omega, fun z hz => by omega⟩

theorem md5ZeroCount_end (len : Nat) : len + 1 + md5ZeroCount len = 64 * ((len + 8) / 64) + 56 := by
  unfold md5ZeroCount
  omega

/-- The search of `padded` finds the count of R190. -/
theorem findIdx_zeros (len : Nat) :
    ((List.range 64).findIdx fun z => (len + 1 + z) % 64 = 56) = md5ZeroCount len := by
  obtain ⟨hfits, hleast⟩ := md5ZeroCount_least len
  have hlt : md5ZeroCount len < 64 := Nat.mod_lt _ (by decide)
  rw [List.findIdx_eq (by rwa [List.length_range])]
  constructor
  · simpa using hfits
  · intro j hj
    have hnot : ¬ (len + 1 + j) % 64 = 56 := fun h => absurd (hleast j h) (Nat.not_le_of_lt hj)
    simpa using hnot

/-- What stands before the length field: the message, the byte 0x80 and the zero bytes (R190). -/
def md5Front (msg : Nat → Byte) (len : Nat) : List Byte :=
  (List.range len).map msg ++ 0x80#8 :: List.replicate (md5ZeroCount len) 0#8

/-- The length field and the four zero bytes after it (R190, R193). -/
def md5LengthField (len : Nat) : List Byte :=
  (List.range 4).map (fun k => (BitVec.ofNat 32 (8 * len)).extractLsb' (8 * k) 8) ++ [0, 0, 0, 0]

theorem md5Pad_eq (msg : Nat → Byte) (len : Nat) : md5Pad msg len = md5Front msg len ++ md5LengthField len := by
  simp only [md5Pad, md5Front, md5LengthField, List.append_assoc, List.singleton_append]
  rfl

theorem md5Front_length (msg : Nat → Byte) (len : Nat) : (md5Front msg len).length = 64 * ((len + 8) / 64) + 56 := by
  rw [← md5ZeroCount_end]
  simp [md5Front, Nat.add_assoc, Nat.add_comm 1]

theorem md5LengthField_length (len : Nat) : (md5LengthField len).length = 8 := rfl

theorem padded_eq (msg : Nat → Byte) (len : Nat) : padded ((List.range len).map msg) = md5Pad msg len := by
  rw [md5Pad_eq, padded, List.length_map, List.length_range, findIdx_zeros, md5Front, md5LengthField, List.append_assoc]

/-- The tables S and K of the model are those of R194 and R195. -/
theorem md5S_getD : ∀ i < 64, md5S.getD i 0 = md5Shift i := by decide

theorem md5Constants_getD (i : Nat) : md5Constants.getD i 0 = md5K i := rfl

/-- F and g by the quarter of the round (R196). -/
theorem md5FG_eq (i : Nat) (b c d : Word) : md5FG i b c d = (md5F i b c d, md5G i) := by
  unfold md5FG md5F md5G
  by_cases h1 : i < 16
  · rw [if_pos h1, show i / 16 = 0 by omega]; rfl
  · by_cases h2 : i < 32
    · rw [if_neg h1, if_pos h2, show i / 16 = 1 by omega]; rfl
    · by_cases h3 : i < 48
      · rw [if_neg h1, if_neg h2, if_pos h3, show i / 16 = 2 by omega]; rfl
      · obtain ⟨q, hq⟩ : ∃ q, i / 16 = q + 3 := ⟨i / 16 - 3, by omega⟩
        rw [if_neg h1, if_neg h2, if_neg h3, hq]; rfl

theorem md5BlockWord_eq (pad : List Byte) (blk : Nat) : md5BlockWord pad blk = blockWord pad blk :=
  funext fun _ => le32_eq_word32 _ _ _ _

/-- The round variables A, B, C, D. -/
def Md5Work.vars (w : Md5Work) : Word × Word × Word × Word := (w.a, w.b, w.c, w.d)

/-- The running digest. -/
def Md5Work.digest (w : Md5Work) : Digest := ⟨w.h0, w.h1, w.h2, w.h3⟩

theorem md5Round_eq_roundSteps (m : Nat → Word) (w : Md5Work) {i : Nat} (h : i < 64) :
    (md5Round m w i).vars = roundSteps m w.vars i := by
  simp only [roundSteps, Md5Work.vars, md5FG_eq, md5S_getD i h, md5Constants_getD]
  rfl

/-- `compress` of the model is that of R197. -/
theorem md5Compress_digest (w : Md5Work) (blk : Nat) :
    (md5Compress w blk).digest = compressSteps w.pad w.digest blk ∧ (md5Compress w blk).pad = w.pad := by
  have hrounds := forRange_rel (fun v (vars : Word × Word × Word × Word) => SameMd5 v w ∧ v.vars = vars) 0 64
    { w with a := w.h0, b := w.h1, c := w.h2, d := w.h3 } (w.h0, w.h1, w.h2, w.h3)
    (md5Round (md5BlockWord w.pad blk)) (roundSteps (blockWord w.pad blk)) ⟨⟨rfl, rfl, rfl, rfl, rfl⟩, rfl⟩
    (fun v vars i _ hi ⟨hkeep, hvars⟩ =>
      ⟨hkeep, by rw [md5Round_eq_roundSteps _ v hi, hvars, md5BlockWord_eq]⟩)
  obtain ⟨⟨h0, h1, h2, h3, hpad⟩, hvars⟩ := hrounds
  refine ⟨?_, by simpa only [md5Compress] using hpad⟩
  simp only [Md5Work.digest, compressSteps, ← forRange_zero]
  rw [← hvars]
  simp only [md5Compress, Md5Work.vars, h0, h1, h2, h3]

theorem md5Run_digest (msg : Nat → Byte) (len : Nat) (w : Md5Work) :
    (md5Run msg len w).digest = (List.range ((md5Pad msg len).length / 64)).foldl (compressSteps (md5Pad msg len))
      ⟨0x67452301#32, 0xEFCDAB89#32, 0x98BADCFE#32, 0x10325476#32⟩ := by
  rw [← forRange_zero]
  have hblocks := forRange_rel (fun (v : Md5Work) (d : Digest) => v.pad = md5Pad msg len ∧ v.digest = d) 0
    ((md5Pad msg len).length / 64)
    { w with pad := md5Pad msg len, h0 := 0x67452301#32, h1 := 0xEFCDAB89#32, h2 := 0x98BADCFE#32, h3 := 0x10325476#32 }
    ⟨0x67452301#32, 0xEFCDAB89#32, 0x98BADCFE#32, 0x10325476#32⟩ md5Compress (compressSteps (md5Pad msg len))
    ⟨rfl, rfl⟩ (fun v d blk _ _ ⟨hpad, hdigest⟩ => by
      obtain ⟨hd, hp⟩ := md5Compress_digest v blk
      exact ⟨hp.trans hpad, by rw [hd, hpad, hdigest]⟩)
  exact hblocks.2

theorem opDigest_md5 : s.opDigest .md5 =
    (List.range ((padded (message s.mem s.latched.src s.latched.len)).length / 64)).foldl
      (compressSteps (padded (message s.mem s.latched.src s.latched.len)))
      ⟨0x67452301#32, 0xEFCDAB89#32, 0x98BADCFE#32, 0x10325476#32⟩ := by
  rw [message, padded_eq]
  exact md5Run_digest s.msg s.latched.len.toNat s.work.md5

/-! ## Plain footprints (20_memory.md R51, R52) -/

/-- Every address of a plain range is plain. -/
theorem plain_addresses {p : Params} {base count : Nat} (h : Plain p base count) :
    ∀ a ∈ addresses base count, PlainAt p a := by
  intro a ha
  obtain ⟨k, hk, rfl⟩ := mem_addresses.mp ha
  exact h k hk

/-- The footprint is plain when its buffer and its table are (R53). -/
theorem plain_footprint {p : Params} {op : Op} {l : Latched}
    (hbuffer : Plain p l.src.toNat (if op = .lookup3 then l.len.toNat + 1 else l.len.toNat))
    (hpearson : op = .pearson → Plain p l.tbl.toNat 256) (hcrc : op = .crc32t → Plain p l.tbl.toNat 1024) :
    ∀ a ∈ footprint op l, PlainAt p a := by
  intro a ha
  rw [footprint_eq, List.mem_append] at ha
  obtain ha | ha := ha
  · exact plain_addresses hbuffer a ha
  · split at ha
    · next h => exact plain_addresses (hpearson h) a ha
    · split at ha
      · next h => exact plain_addresses (hcrc h) a ha
      · cases ha

/-- An operation that reads the buffer only completes with its digest from any idle state with a plain buffer. -/
theorem bufferCommand_successFrom {s : State} {ie : Bool} {bits : BitVec 4} {op : Op} (hb : s.regs.status.busy = false)
    (hmoves : EngineMoves s) (ho : opOfBits bits = some op) (hop : op ∈ [Op.crc32b, .sdbm, .fnv1a, .oat])
    (hplain : Plain s.params s.regs.src.toNat s.regs.len.toNat) :
    ∃ u, RunsTo (commandOf bits ie) s u ∧ SuccessFrom s u ie bits 0 ((s.launched ie bits).opDigest op) := by
  have hother : op ≠ .pearson ∧ op ≠ .crc32t ∧ op ≠ .lookup3 ∧ op ≠ .md5 := by
    refine ⟨?_, ?_, ?_, ?_⟩ <;> rintro rfl <;> simp at hop
  obtain ⟨hpearson, hcrc, hlookup3, hmd5⟩ := hother
  obtain ⟨u, hruns, hsuccess⟩ := command_successFrom (ie := ie) hb hmoves ho (fun h => hpearson h.1) (fun h => hmd5 h.1)
    (plain_footprint (by rw [if_neg hlookup3]; exact hplain) (fun h => absurd h hpearson) (fun h => absurd h hcrc))
  rw [State.opPath, if_neg hlookup3, Option.getD_none] at hsuccess
  exact ⟨u, hruns, hsuccess⟩

end Sys2Proof.Machine
end

/-! ## The statements -/

section
namespace Sys2Proof.Proofs.Operations

open Sys2Proof Sys2Proof.Machine Sys2Proof.Claims

/-- Settles O21: the four rounds are `opDigest_pearson`. -/
theorem pearsonDigest : Obligations.PearsonDigest := by
  intro s ie hb hmoves hlen hbuffer htable msg tab byte
  obtain ⟨u, hruns, hsuccess⟩ := command_successFrom (bits := 1) (op := .pearson) (ie := ie) hb hmoves rfl
    (fun h => hlen h.2) (fun h => by cases h.1) (plain_footprint hbuffer (fun _ => htable) (fun h => by cases h))
  rw [opDigest_pearson (s.launched ie 1) hlen] at hsuccess
  exact ⟨u, hruns, hsuccess⟩

/-- Settles O22: the fold over the message is `opDigest_crc32t`. -/
theorem crc32tDigest : Obligations.Crc32tDigest := by
  intro s ie hb hmoves hbuffer htable tab
  obtain ⟨u, hruns, hsuccess⟩ := command_successFrom (bits := 2) (op := .crc32t) (ie := ie) hb hmoves rfl
    (fun h => by cases h.1) (fun h => by cases h.1)
    (plain_footprint hbuffer (fun h => by cases h) (fun _ => htable))
  have htab : (s.launched ie 2).crcTable = tab := funext fun _ => le32_eq_word32 _ _ _ _
  rw [opDigest_crc32t, htab] at hsuccess
  exact ⟨u, hruns, hsuccess⟩

/-- Settles O23: the fold over the message is `opDigest_crc32b`. -/
theorem crc32bDigest : Obligations.Crc32bDigest := by
  intro s ie hb hmoves hbuffer
  obtain ⟨u, hruns, hsuccess⟩ := bufferCommand_successFrom (bits := 3) (ie := ie) hb hmoves rfl (by simp) hbuffer
  rw [opDigest_crc32b] at hsuccess
  exact ⟨u, hruns, hsuccess⟩

/-- Settles O24: the fold over the message is `opDigest_sdbm`. -/
theorem sdbmDigest : Obligations.SdbmDigest := by
  intro s ie hb hmoves hbuffer
  obtain ⟨u, hruns, hsuccess⟩ := bufferCommand_successFrom (bits := 4) (ie := ie) hb hmoves rfl (by simp) hbuffer
  rw [opDigest_sdbm] at hsuccess
  exact ⟨u, hruns, hsuccess⟩

/-- Settles O25: the fold over the message is `opDigest_fnv1a`. -/
theorem fnv1aDigest : Obligations.Fnv1aDigest := by
  intro s ie hb hmoves hbuffer
  obtain ⟨u, hruns, hsuccess⟩ := bufferCommand_successFrom (bits := 5) (ie := ie) hb hmoves rfl (by simp) hbuffer
  rw [opDigest_fnv1a] at hsuccess
  exact ⟨u, hruns, hsuccess⟩

/-- Settles O26: the fold over the message is `opDigest_oat`. -/
theorem oatDigest : Obligations.OatDigest := by
  intro s ie hb hmoves hbuffer byteStep h0 h1 h2
  obtain ⟨u, hruns, hsuccess⟩ := bufferCommand_successFrom (bits := 6) (ie := ie) hb hmoves rfl (by simp) hbuffer
  rw [opDigest_oat] at hsuccess
  exact ⟨u, hruns, hsuccess⟩

/-- Settles O27: blocks, tail and `final` are `lookup3Run_c`, the path `lookup3Path_eq`. -/
theorem lookup3Digest : Obligations.Lookup3Digest := by
  intro s ie hb hmoves hbuffer byte word start rounds
  obtain ⟨u, hruns, hsuccess⟩ := command_successFrom (bits := 7) (op := .lookup3) (ie := ie) hb hmoves rfl
    (fun h => by cases h.1) (fun h => by cases h.1)
    (plain_footprint hbuffer (fun h => by cases h) (fun h => by cases h))
  have hdigest : (s.launched ie 7).opDigest .lookup3 =
      digest32 (lookup3Run (s.launched ie 7).msg s.regs.len s.regs.seed).c := rfl
  have hpath : ((s.launched ie 7).opPath .lookup3).getD 0 = lookup3Path s.regs.src := rfl
  rw [hdigest, lookup3Run_c, hpath, lookup3Path_eq] at hsuccess
  exact ⟨u, hruns, hsuccess⟩

/-- Settles O28: the blocks of the padded message are `opDigest_md5`. -/
theorem md5Digest : Obligations.Md5Digest := by
  intro s ie hb hmoves hroom hbuffer pad
  obtain ⟨u, hruns, hsuccess⟩ := command_successFrom (bits := 8) (op := .md5) (ie := ie) hb hmoves rfl
    (fun h => by cases h.1) (fun ⟨_, n, hn, hfull⟩ => absurd hfull (Nat.not_lt_of_le (hroom n hn)))
    (plain_footprint hbuffer (fun h => by cases h) (fun h => by cases h))
  rw [opDigest_md5] at hsuccess
  exact ⟨u, hruns, hsuccess⟩

/-- Settles O54: the two units run one loop, and the table is the computed one. -/
theorem crcModesAgree : Obligations.CrcModesAgree := by
  intro s t _ _ hmem hsrc hlen htable
  have htab : s.crcTable = crcEntry := funext htable
  rw [opDigest_crc32t, opDigest_crc32b, htab, hmem, hsrc, hlen]

/-- Settles O55: with the identity table a round is a running XOR from `Msg[0] + i`. -/
theorem pearsonIdentityTable : Obligations.PearsonIdentityTable := by
  intro s htable hlen msg byte
  have htab : s.pearsonTable = id := funext htable
  have hbyte : pearsonByte id (msg.headD 0) (msg.drop s.params.pearsonJStart.val) = byte :=
    funext fun i => foldl_xor (msg.headD 0 + i) _
  rw [opDigest_pearson s hlen, htab, hbyte]

/-- Settles O56: LOOKUP3 reads the message bytes, whatever the source address. -/
theorem lookup3PathsAgree : Obligations.Lookup3PathsAgree := by
  intro s t hlen hseed hmsg
  have hrun : lookup3Run s.msg s.latched.len s.latched.seed = lookup3Run t.msg t.latched.len t.latched.seed := by
    rw [← hlen, ← hseed]
    exact lookup3Run_congr _ _ hmsg
  exact congrArg (fun w : Lookup3Work => digest32 w.c) hrun

/-- Settles O57: the sentinel is no message byte. -/
theorem sentinelValueUnused : Obligations.SentinelValueUnused := by
  intro s a b ha
  have hrun : lookup3Run (State.msg { s with mem := memWrite s.mem a b }) s.latched.len s.latched.seed =
      lookup3Run s.msg s.latched.len s.latched.seed :=
    lookup3Run_congr _ _ fun j hj => memRead_memWrite_other s.mem a (s.latched.src.toNat + j) b (by omega)
  exact ⟨congrArg (fun w : Lookup3Work => digest32 w.c) hrun, rfl⟩

/-- Settles O58: a zero byte leaves the accumulator 0 at 0, and so does the finalization. -/
theorem oatOfZeroBytes : Obligations.OatOfZeroBytes := by
  intro s hzero
  have hmsg : message s.mem s.latched.src s.latched.len = List.replicate s.latched.len.toNat 0#8 := by
    rw [message, List.eq_replicate_iff]
    refine ⟨by simp, fun b hb => ?_⟩
    obtain ⟨j, hj, rfl⟩ := List.mem_map.mp hb
    exact hzero j (List.mem_range.mp hj)
  rw [opDigest_oat, hmsg, foldl_oatByte_zero]
  rfl

/-- Settles O59: the padded message is `md5Front`, of known length, and then `md5LengthField`. -/
theorem md5PaddedMessage : Obligations.Md5PaddedMessage := by
  intro msg len
  obtain ⟨hfits, hleast⟩ := md5ZeroCount_least len
  have hend := md5ZeroCount_end len
  have hfront := md5Front_length msg len
  refine ⟨?length, hfits, hleast, fun j hj => ?message, ?mark, fun j hlow hhigh => ?zeros, hend.symm, ?field⟩
  case length =>
    rw [md5Pad_eq, List.length_append, hfront, md5LengthField_length]
    omega
  case field =>
    have hmod : BitVec.ofNat 32 (8 * len) = BitVec.ofNat 32 (8 * len % 4294967296) := BitVec.eq_of_toNat_eq (by simp)
    rw [md5Pad_eq, List.drop_left' hfront, md5LengthField, hmod]
  all_goals rw [md5Pad_eq, List.getElem?_append_left (by omega), md5Front]
  case message => rw [List.getElem?_append_left (by simpa using hj)]; simp [hj]
  case mark => rw [List.getElem?_append_right (by simp)]; simp
  case zeros =>
    obtain ⟨k, rfl⟩ : ∃ k, j = len + (k + 1) := ⟨j - len - 1, by omega⟩
    rw [List.getElem?_append_right (by simp)]
    simp [show k < md5ZeroCount len by omega]

end Sys2Proof.Proofs.Operations
end

/-! # Memory as data (spec/20_memory.md) and the host programs (spec/30_encoding.md R77, R78) -/

/-! ## Canonical memories -/

section
namespace Sys2Proof.Machine

theorem Memory.wf_tail {c : Host.Cell} {m : Memory} (h : Memory.wf (c :: m)) : Memory.wf m :=
  ⟨(List.pairwise_cons.mp h.1).2, fun d hd => h.2 d (List.mem_cons_of_mem _ hd)⟩

/-- A canonical memory reads its first cell where that cell is, and nothing listed below it. -/
theorem memRead_first {k : Nat} {b : Byte} {m : Memory} (h : Memory.wf ((k, b) :: m)) :
    memRead ((k, b) :: m) k = b ∧ b ≠ unlistedByte ∧ (∀ a < k, memRead ((k, b) :: m) a = unlistedByte) ∧
      memRead m k = unlistedByte := by
  have hrest : ∀ c ∈ m, k < c.1 := fun c hc => (List.pairwise_cons.mp h.1).1 c hc
  obtain ⟨_, hb⟩ := h.2 (k, b) List.mem_cons_self
  refine ⟨if_pos rfl, hb, fun a ha => memRead_below _ a fun c hc => ?_, memRead_below m k hrest⟩
  obtain rfl | hc := List.mem_cons.mp hc
  · exact ha
  · exact ha.trans (hrest c hc)

/-- Two canonical memories that read the same have the same first address. -/
theorem first_le_of_memRead_eq {k k' : Nat} {b b' : Byte} {m n : Memory} (hm : Memory.wf ((k, b) :: m))
    (hn : Memory.wf ((k', b') :: n)) (h : ∀ a, memRead ((k, b) :: m) a = memRead ((k', b') :: n) a) : k' ≤ k := by
  obtain ⟨hread, hb, _, _⟩ := memRead_first hm
  obtain ⟨_, _, hbelow, _⟩ := memRead_first hn
  by_contra hlt
  exact hb (hread.symm.trans ((h k).trans (hbelow k (Nat.lt_of_not_le hlt))))

/-- A canonical memory is determined by what it reads (log 7). -/
theorem memory_ext {m n : Memory} (hm : Memory.wf m) (hn : Memory.wf n) (h : ∀ a, memRead m a = memRead n a) : m = n := by
  induction m generalizing n with
  | nil =>
    cases n with
    | nil => rfl
    | cons c n =>
      obtain ⟨hread, hb, _, _⟩ := memRead_first hn
      exact absurd (hread.symm.trans (h c.1).symm) hb
  | cons c m ih =>
    obtain ⟨k, b⟩ := c
    cases n with
    | nil =>
      obtain ⟨hread, hb, _, _⟩ := memRead_first hm
      exact absurd (hread.symm.trans (h k)) hb
    | cons d n =>
      obtain ⟨k', b'⟩ := d
      obtain rfl : k = k' := Nat.le_antisymm (first_le_of_memRead_eq hn hm fun a => (h a).symm)
        (first_le_of_memRead_eq hm hn h)
      obtain ⟨hread, _, _, hrest⟩ := memRead_first hm
      obtain ⟨hread', _, _, hrest'⟩ := memRead_first hn
      obtain rfl : b = b' := hread.symm.trans ((h k).trans hread')
      have htail : m = n := ih (Memory.wf_tail hm) (Memory.wf_tail hn) fun a => by
        by_cases ha : k = a
        · rw [← ha, hrest, hrest']
        · have hcons := h a
          rwa [memRead_cons, memRead_cons, if_neg ha, if_neg ha] at hcons
      rw [htail]

/-! ## HC.START (30_encoding.md R76, R78) -/

theorem hcStart_word (op : BitVec 4) : (op.setWidth 32 <<< 4) + 1 = commandWord op false := by
  revert op; decide

theorem hcStartI_word (op : BitVec 4) : (op.setWidth 32 <<< 4) + 3 = commandWord op true := by
  revert op; decide

theorem commandWord_fields (op : BitVec 4) (ie : Bool) : ctrlStart (commandWord op ie) = true ∧
    ctrlIe (commandWord op ie) = ie ∧ ctrlOp (commandWord op ie) = op := by
  revert op ie; decide

theorem exec_startAccept_commandWord {s : State} (hb : s.regs.status.busy = false) (op : BitVec 4) (ie : Bool) :
    exec (.startAccept (commandWord op ie)) s = .next (s.acceptStart ie op) := by
  obtain ⟨_, hie, hop⟩ := commandWord_fields op ie
  have hexec : exec (.startAccept (commandWord op ie)) s =
      .next (s.startCommand (ctrlIe (commandWord op ie)) (ctrlOp (commandWord op ie))) := rfl
  rw [hexec, hie, hop, startCommand_idle s ie op hb]

/-- The host write of a command word to CTRL starts the operation on an idle core. -/
theorem hostAccess_commandWord {s : State} (hb : s.regs.status.busy = false) (op : BitVec 4) (ie : Bool) :
    s.hostAccess true (s.params.hcBase + driverOffset .ctrl) 32 (commandWord op ie) = .next (s.acceptStart ie op) := by
  obtain ⟨hstart, _, _⟩ := commandWord_fields op ie
  have hdecode : decodeWrite s.regs.status.busy (commandWord op ie) (slotAt 0) = .startAccept (commandWord op ie) := by
    rw [hb]; exact if_pos hstart
  have hwrite := hostAccess_write s 0 (commandWord op ie)
  rw [hdecode, exec_startAccept_commandWord hb] at hwrite
  exact hwrite

/-- A driver step whose turn is the host's and whose one statement writes a command word. -/
theorem driverStep_commandWord {s : State} (hb : s.regs.status.busy = false) (op : BitVec 4) (ie : Bool)
    (names : List (Nat × Word)) (turns : List Bool) :
    driverStep [.hw .ctrl (commandWord op ie)] ⟨s, 0, names, false :: turns⟩ =
      .next ⟨s.acceptStart ie op, 1, names, turns⟩ :=
  congrArg (driverLift · fun t => ⟨t, 1, names, turns⟩) (hostAccess_commandWord hb op ie)

/-! ## HC.WAIT (30_encoding.md R78) -/

/-- The operation in flight completes at the engine's turn, whatever the completion's outcome. -/
structure InFlight (s : State) : Prop where
  inv : Inv s
  busy : s.regs.status.busy = true
  completes : ∃ u, s.complete = .next u

/-- The operation has completed. -/
def Ended (s : State) : Prop := s.regs.status.busy = false ∧ s.regs.status.done = true

/-- A name that holds a value with bit 1 set holds it because the operation has ended. -/
def ReadDone (names : List (Nat × Word)) (name : Nat) (s : State) : Prop :=
  ∃ v, nameValue names name = some v ∧ (v.getLsbD 1 = true → Ended s)

/-- The polling loop is at one of its three statements, and a value read with DONE = 1 tells the truth. -/
structure Waiting (name : Nat) (r : DriverRun) : Prop where
  core : InFlight r.core ∨ Ended r.core
  place : r.pc = 0 ∨ r.pc = 1 ∨ (r.pc = 2 ∧ ReadDone r.names name r.core)

/-- The loop has ended with DONE = 1 in the name it reads into. -/
def Finished (name : Nat) (r : DriverRun) : Prop :=
  r.pc = 3 ∧ Ended r.core ∧ ∃ v, nameValue r.names name = some v ∧ v.getLsbD 1 = true

/-- Some number of driver steps ends the loop. -/
def Finishes (name l : Nat) (r : DriverRun) : Prop :=
  ∃ k r', driverSteps (hcWait name l) k r = .next r' ∧ Finished name r'

theorem Finished.finishes {name : Nat} {r : DriverRun} (l : Nat) (h : Finished name r) : Finishes name l r :=
  ⟨0, r, rfl, h⟩

theorem finishes_of_step {name l : Nat} {r r' : DriverRun} (hstep : driverStep (hcWait name l) r = .next r')
    (h : Finishes name l r') : Finishes name l r := by
  obtain ⟨k, r'', hsteps, hfinished⟩ := h
  exact ⟨k + 1, r'', by rw [driverSteps, hstep]; exact hsteps, hfinished⟩

/-- Bit 1 of STATUS is DONE (10_state.md R23). -/
theorem getLsbD_one_read (st : Status) : st.read.getLsbD 1 = st.done := by
  rw [Status.getLsbD_read]; simp

theorem hostRead_inFlight {s : State} (h : InFlight s) (slot : Slot) : InFlight (s.hostRead slot) := by
  obtain ⟨u, hu⟩ := h.completes
  refine ⟨inv_hostEffect h.inv (.read slot), h.busy, ?_⟩
  obtain ⟨_, _, ht⟩ | ⟨_, _, _, _, ht⟩ := complete_congr (s := s) (t := s.hostRead slot) rfl rfl hu
  · exact ⟨_, ht⟩
  · exact ⟨_, ht⟩

/-- The engine's turn ends the operation, and leaves an ended one alone. -/
theorem engineTurn_ends {s : State} (h : InFlight s ∨ Ended s) : ∃ t, s.engineTurn = .next t ∧ Ended t := by
  obtain h | h := h
  · obtain ⟨u, hu⟩ := h.completes
    obtain ⟨hbusy, hdone, _⟩ := complete_next_status hu
    exact ⟨u, (engineTurn_busy h.busy).trans hu, hbusy, hdone⟩
  · exact ⟨s, engineTurn_idle h.1, h⟩

/-! The three statements of the loop. -/

variable {name l : Nat} {r : DriverRun}

theorem hostStatement_label (hpc : r.pc = 0) : hostStatement (hcWait name l) r = .next { r with pc := 1 } := by
  simp [hostStatement, hcWait, hpc]

theorem hostStatement_read (hpc : r.pc = 1) : hostStatement (hcWait name l) r =
    .next { r with core := r.core.hostRead .status, pc := 2, names := (name, r.core.regs.status.read) :: r.names } := by
  have hread : r.core.hostAccess false (r.core.params.hcBase + driverOffset .status) 32 0 =
      .next (r.core.hostRead .status) := hostAccess_read r.core 1 0
  simp only [hostStatement, hcWait, hpc, List.getElem?_cons_succ, List.getElem?_cons_zero, hread]
  rfl

theorem and_two_eq_zero (v : Word) : (v &&& 0x2 == 0) = !v.getLsbD 1 := by
  have h : v &&& 0x2 = if v.getLsbD 1 then BitVec.twoPow 32 1 else 0#32 := BitVec.and_twoPow v 1
  rw [h]
  cases v.getLsbD 1 <;> rfl

theorem hostStatement_branch {v : Word} (hpc : r.pc = 2) (hname : nameValue r.names name = some v) :
    hostStatement (hcWait name l) r = .next { r with pc := if v.getLsbD 1 then 3 else 0 } := by
  have hlabel : (hcWait name l).findIdx? (· = Stmt.label l) = some 0 := by
    simp [hcWait, List.findIdx?_cons]
  have hbranch : hostStatement (hcWait name l) r = driverBranch (hcWait name l) r name 0x2 l fun v => v == 0 := by
    simp [hostStatement, hcWait, hpc]
  rw [hbranch, driverBranch, hname]
  simp only [and_two_eq_zero, hlabel, hpc]
  cases v.getLsbD 1 <;> rfl

/-- A host statement of the loop goes on waiting or ends the loop. -/
theorem hostStatement_waiting (h : Waiting name r) :
    ∃ r', hostStatement (hcWait name l) r = .next r' ∧ r'.turns = r.turns ∧ (Waiting name r' ∨ Finished name r') := by
  obtain hpc | hpc | ⟨hpc, v, hname, hdone⟩ := h.place
  · exact ⟨_, hostStatement_label hpc, rfl, .inl ⟨h.core, .inr (.inl rfl)⟩⟩
  · refine ⟨_, hostStatement_read hpc, rfl, .inl ⟨?_, .inr (.inr ⟨rfl, r.core.regs.status.read, ?_, fun hbit => ?_⟩)⟩⟩
    · exact h.core.imp_left fun hflight => hostRead_inFlight hflight .status
    · simp [nameValue]
    · obtain hflight | hended := h.core
      · obtain ⟨hclear, _⟩ := hflight.inv.busyClear hflight.busy
        rw [getLsbD_one_read, hclear] at hbit
        cases hbit
      · exact hended
  · refine ⟨_, hostStatement_branch hpc hname, rfl, ?_⟩
    cases hbit : v.getLsbD 1 with
    | true => exact .inr ⟨rfl, hdone hbit, v, hname, hbit⟩
    | false => exact .inl ⟨h.core, .inl rfl⟩

/-- One turn of the list, the engine's or the host's. -/
theorem driverStep_waiting {turn : Bool} {turns : List Bool} (h : Waiting name r) (hturns : r.turns = turn :: turns) :
    ∃ r', driverStep (hcWait name l) r = .next r' ∧ r'.turns = turns ∧ (Waiting name r' ∨ Finished name r') := by
  cases turn with
  | true =>
    obtain ⟨t, ht, hended⟩ := engineTurn_ends h.core
    refine ⟨{ r with core := t, turns := turns }, ?_, rfl, .inl ⟨.inr hended, ?_⟩⟩
    · rw [driverStep, hturns]; simp only [ht, driverLift]
    · exact h.place.imp_right fun hplace => hplace.imp_right fun ⟨hpc, v, hname, _⟩ => ⟨hpc, v, hname, fun _ => hended⟩
  | false =>
    have hstep : driverStep (hcWait name l) r = hostStatement (hcWait name l) { r with turns := turns } := by
      rw [driverStep, hturns]
    rw [hstep]
    exact hostStatement_waiting (r := { r with turns := turns }) ⟨h.core, h.place⟩

/-! When the turns are used up an idle core leaves them to the host. -/

theorem driverStep_idle (hturns : r.turns = []) (h : Ended r.core) :
    driverStep (hcWait name l) r = hostStatement (hcWait name l) r := by
  rw [driverStep, hturns]
  exact if_neg (by rw [h.1]; exact Bool.false_ne_true)

theorem finishes_of_branch {v : Word} (hturns : r.turns = []) (h : Ended r.core) (hpc : r.pc = 2)
    (hname : nameValue r.names name = some v) (hbit : v.getLsbD 1 = true) : Finishes name l r := by
  refine finishes_of_step ((driverStep_idle hturns h).trans (hostStatement_branch hpc hname)) (Finished.finishes l ?_)
  exact ⟨if_pos hbit, h, v, hname, hbit⟩

theorem finishes_of_read (hturns : r.turns = []) (h : Ended r.core) (hpc : r.pc = 1) : Finishes name l r := by
  refine finishes_of_step ((driverStep_idle hturns h).trans (hostStatement_read hpc)) ?_
  exact finishes_of_branch hturns h rfl (v := r.core.regs.status.read) (by simp [nameValue])
    ((getLsbD_one_read _).trans h.2)

theorem finishes_of_label (hturns : r.turns = []) (h : Ended r.core) (hpc : r.pc = 0) : Finishes name l r :=
  finishes_of_step ((driverStep_idle hturns h).trans (hostStatement_label hpc)) (finishes_of_read hturns h rfl)

/-- Once the operation has ended, the loop reads DONE = 1 in at most one more round. -/
theorem finishes_of_ended (hturns : r.turns = []) (hwait : Waiting name r) (h : Ended r.core) : Finishes name l r := by
  obtain hpc | hpc | ⟨hpc, v, hname, _⟩ := hwait.place
  · exact finishes_of_label hturns h hpc
  · exact finishes_of_read hturns h hpc
  · cases hbit : v.getLsbD 1 with
    | true => exact finishes_of_branch hturns h hpc hname hbit
    | false =>
      refine finishes_of_step ((driverStep_idle hturns h).trans (hostStatement_branch hpc hname)) ?_
      exact finishes_of_label hturns h (if_neg (by rw [hbit]; exact Bool.false_ne_true))

/-- With no turns left the engine moves while an operation is in flight (70_reset_and_hazards.md R261), and then the host. -/
theorem finishes_of_noTurns (hturns : r.turns = []) (h : Waiting name r) : Finishes name l r := by
  obtain hflight | hended := h.core
  · obtain ⟨t, ht, hended⟩ := engineTurn_ends h.core
    have hstep : driverStep (hcWait name l) r = .next { r with core := t } := by
      rw [driverStep, hturns]
      simp only [hflight.busy, if_true, ht, driverLift]
    refine finishes_of_step hstep (finishes_of_ended hturns ⟨.inr hended, ?_⟩ hended)
    exact h.place.imp_right fun hplace => hplace.imp_right fun ⟨hpc, v, hname, _⟩ => ⟨hpc, v, hname, fun _ => hended⟩
  · exact finishes_of_ended hturns h hended

/-- The loop ends, by induction on the turns that are left. -/
theorem finishes_of_waiting (h : Waiting name r) : Finishes name l r := by
  generalize hturns : r.turns = turns
  induction turns generalizing r with
  | nil => exact finishes_of_noTurns hturns h
  | cons turn turns ih =>
    obtain ⟨r', hstep, hturns', hwait | hfinished⟩ := driverStep_waiting (l := l) h hturns
    · exact finishes_of_step hstep (ih hwait hturns')
    · exact finishes_of_step hstep (hfinished.finishes l)

/-- A completion that is not refused answers a next state. -/
theorem complete_of_not_refused {s : State} (h : ∀ e, s.complete ≠ .refused e) : ∃ u, s.complete = .next u := by
  cases hc : s.complete with
  | next u => exact ⟨u, rfl⟩
  | fault f => exact absurd hc (complete_ne_fault s f)
  | refused e => exact absurd hc (h e)

end Sys2Proof.Machine
end

/-! ## The statements -/

section
namespace Sys2Proof.Proofs.HostPrograms

open Sys2Proof Sys2Proof.Machine Sys2Proof.Claims

/-- Settles O49: from its first statement the loop waits, and a waiting loop finishes. -/
theorem hcWaitTerminates : Obligations.HcWaitTerminates := by
  intro s names turns name l hinv hb hrefused
  have hwait : Waiting name ⟨s, 0, names, turns⟩ := ⟨.inl ⟨hinv, hb, complete_of_not_refused hrefused⟩, .inl rfl⟩
  obtain ⟨k, r, hsteps, hpc, ⟨hbusy, hdone⟩, v, hname, hbit⟩ := finishes_of_waiting (l := l) hwait
  exact ⟨k, r, v, hsteps, hpc, hbusy, hdone, hname, hbit⟩

/-- Settles O51: both pseudo-instructions write the command word, with their own IE. -/
theorem hcStartStartsOperation : Obligations.HcStartStartsOperation := by
  intro s op names turns hb
  rw [hcStart, hcStart_word, hcStartI, hcStartI_word]
  exact ⟨⟨_, exec_startAccept_commandWord hb op false, rfl, rfl, rfl, driverStep_commandWord hb op false names turns⟩,
    ⟨_, exec_startAccept_commandWord hb op true, rfl, rfl, rfl, driverStep_commandWord hb op true names turns⟩⟩

/-- Settles O60: `memory_ext`. -/
theorem canonicalMemoryIsExtensional : Obligations.CanonicalMemoryIsExtensional := fun _ _ => memory_ext

end Sys2Proof.Proofs.HostPrograms
end
